-- ==== Sys2Proof/Word.lean ====
section
/-! DEFINITION. The two sizes of field a frame of the WT-2240 carries (spec 11, R165, R181). -/
namespace Sys2Proof

/-- One byte of a frame (spec 11, R165). -/
abbrev Byte := BitVec 8

/-- A 16-bit frame field: a u16 or an int16 (spec 11, R181). -/
abbrev Half := BitVec 16

end Sys2Proof
end

