-- ==== Sys2Proof/Config.lean ====
section
/-! DEFINITION. The fixed sizes and bounds the manual gives the part. They never change while it runs,
and the manual leaves none of them to an implementation: there is no free value among them. -/
namespace Sys2Proof.Config

/-- Places of the Intervention Table (spec 07, R98). -/
def tableSize : Nat := 8

/-- Places of the Program Queue (spec 08, R116). -/
def queueSize : Nat := 16

/-- Most segments of one program (spec 08, R116). -/
def programSize : Nat := 12

/-- Bytes of a frame (spec 11, section 11.1). -/
def frameBytes : Nat := 20

/-- Largest share, in per-mille (spec 00, "Units and signs"). -/
def fullShare : Nat := 1000

/-- Share every map cell holds after RESET (spec 03, R42). -/
def resetShare : Nat := 500

/-- Bounds of the demand torque (spec 06, R86). -/
def demandMin : Int := -12000
def demandMax : Int := 16000

/-- Bounds of every speed (spec 05, R70, R81). -/
def speedMin : Int := -1000
def speedMax : Int := 2500

/-- Largest limit an Axle Record holds (spec 05, R70). -/
def envelopeMax : Nat := 8000

/-- Largest value of a cap entry (spec 07, R101). -/
def capMax : Nat := 16000

/-- Largest lifetime of an entry (spec 07, R101). -/
def lifetimeMax : Nat := 1000

/-- Longest segment (spec 08, R119). -/
def durationMax : Nat := 4000

/-- Largest hold count (spec 02, R21). -/
def holdCountMax : Nat := 65535

/-- Bound of the slip ratio in per-mille (spec 04, R55). -/
def slipMax : Int := 2000

end Sys2Proof.Config
end

