-- ==== Sys2Proof/Syntax.lean ====
section
/-! DEFINITION. The commands of the WT-2240: one constructor for each row of spec/opcode_table.json.
A frame command carries the port it arrives on, its tag, and the payload fields of R181 as they stand
on the line (codes and values unchecked); an event command carries the port it happens on. -/
namespace Sys2Proof

/-- The four frame ports (spec 00, "Setting in the vehicle"). -/
inductive Port where
  | pv | pf | pr | ps
  deriving DecidableEq, Repr

/-- A command: an event the block takes whole (spec 95; the operands of the frames are those of R181). -/
inductive Instr where
  /-- PERIOD_EXPIRY (R1): the interval ends, the next begins, a computation starts. -/
  | periodExpiry
  /-- COMPLETION (R6): the computation in flight completes. -/
  | completion
  /-- LIFETIME_EXPIRY (R105): the Intervention Table takes a period expiry. -/
  | lifetimeExpiry
  /-- DEADLINE_EXPIRY (R90): a port's remaining periods have reached 0 at a period expiry. -/
  | deadlineExpiry (p : Port)
  /-- DEMAND (R86). -/
  | demand (p : Port) (tag : Byte) (torque : Half) (propulsion : Byte)
  /-- ENVELOPE (R69). -/
  | envelope (p : Port) (tag : Byte) (driveMax regenMax speed : Half) (ready : Byte)
  /-- REFERENCE (R81). -/
  | reference (p : Port) (tag : Byte) (speed : Half) (valid : Byte)
  /-- SET_PARAM (R162). -/
  | setParam (p : Port) (tag : Byte) (id : Byte) (value : Half)
  /-- READ_PARAM (R164). -/
  | readParam (p : Port) (tag : Byte) (id : Byte)
  /-- WRITE_CELLS (R46): map, start cell, step code, count and four value positions. -/
  | writeCells (p : Port) (tag : Byte) (map start step count : Byte) (v0 v1 v2 v3 : Half)
  /-- SELECT_MAPS (R49). -/
  | selectMaps (p : Port) (tag : Byte) (drive regen : Byte)
  /-- START (R153). -/
  | start (p : Port) (tag : Byte)
  /-- STOP (R156). -/
  | stop (p : Port) (tag : Byte)
  /-- CONFIGURE (R157). -/
  | configure (p : Port) (tag : Byte)
  /-- CLEAR_FAULT (R146). -/
  | clearFault (p : Port) (tag : Byte) (id : Byte)
  /-- QUEUE_SEGMENT (R118): program id, shape code, END byte, target, duration. -/
  | queueSegment (p : Port) (tag : Byte) (id shape endMark : Byte) (target duration : Half)
  /-- ABORT_PROGRAM (R128). -/
  | abortProgram (p : Port) (tag : Byte)
  /-- INTERVENE (R100): id, kind code, axle code, value, lifetime. -/
  | intervene (p : Port) (tag : Byte) (id kind axle : Byte) (value lifetime : Half)
  /-- RELEASE (R108). -/
  | release (p : Port) (tag : Byte) (id : Byte)
  /-- POLL (R179). -/
  | poll (p : Port) (tag : Byte)
  /-- UNKNOWN_KIND (R169): a good frame whose kind byte is none of the sixteen received codes. -/
  | unknownKind (p : Port) (tag : Byte) (kind : Byte)
  /-- RECEIVE_IDLE (R165): the line has been idle for 4 byte times. -/
  | receiveIdle (p : Port)
  /-- FRAME_GAP (R166): the line has been idle for more than 2 byte times. -/
  | frameGap (p : Port)
  /-- FRAMING_ERROR (R166): a byte whose stop bit is not at the idle level. -/
  | framingError (p : Port)
  /-- BYTE_IN_HUNT (R166): a byte arrives in HUNT. -/
  | byteInHunt (p : Port)
  /-- CRC_ERROR (R167): a frame of 20 bytes completes and its CRC does not match. -/
  | crcError (p : Port)
  /-- TRANSMIT_COMPLETION (R176): the frame on the line ends. -/
  | transmitCompletion (p : Port)
  /-- SHUTOFF_ASSERT (R158). -/
  | shutoffAssert
  /-- SHUTOFF_RELEASE (R158). -/
  | shutoffRelease
  /-- RESET_ASSERT (R159). -/
  | resetAssert
  /-- RESET_RELEASE (R1). -/
  | resetRelease
  /-- BYTE_ARRIVAL (R165): a byte with a good stop bit arrives. -/
  | byteArrival (p : Port) (byte : Byte)
  deriving DecidableEq, Repr

end Sys2Proof
end

