-- ==== Sys2Proof/Decode.lean ====
section
/-! DEFINITION. How twenty received bytes spell a command (spec 11: kinds R168, CRC R167, layouts R181),
and the decoder of the opcode table's words, which has no row to read. -/
namespace Sys2Proof

/-- The sixteen received kind codes (spec 11, R168). -/
def receivedKinds : List Byte :=
  [0x10#8, 0x20#8, 0x30#8, 0x41#8, 0x42#8, 0x43#8, 0x44#8, 0x51#8, 0x52#8, 0x53#8, 0x54#8,
   0x61#8, 0x62#8, 0x71#8, 0x72#8, 0x7F#8]

/-- One bit of the CRC register's step: shift left, and add the generator x^16 + x^12 + x^5 + 1 when
the bit shifted out differs from the message bit (spec 11, R167). -/
def crcBit (reg : Half) (bit : Bool) : Half :=
  if reg.msb ^^ bit then (reg <<< 1) ^^^ 0x1021#16 else reg <<< 1

/-- The CRC register after one byte, taken from its most significant bit (spec 11, R167). -/
def crcByte (reg : Half) (b : Byte) : Half :=
  [7, 6, 5, 4, 3, 2, 1, 0].foldl (fun r i => crcBit r (b.getLsbD i)) reg

/-- The CRC of a run of bytes: the register starts at all ones (spec 11, R167). -/
def crc (bytes : List Byte) : Half := bytes.foldl crcByte 0xFFFF#16

/-- The low and the high byte of a 16-bit field (multi-byte fields are little-endian, spec 11). -/
def lowByte (h : Half) : Byte := h.setWidth 8
def highByte (h : Half) : Byte := (h >>> 8).setWidth 8

/-- The byte at a position of a frame. -/
def byteAt (frame : List Byte) (n : Nat) : Byte := frame.getD n 0#8

/-- The 16-bit field whose low byte stands at a position (spec 11, R181). -/
def halfAt (frame : List Byte) (n : Nat) : Half := byteAt frame (n + 1) ++ byteAt frame n

/-- A frame is good when its bytes 18 and 19 equal the CRC of its bytes 0 to 17 (spec 11, R167). -/
def goodFrame (frame : List Byte) : Bool := halfAt frame 18 == crc (frame.take 18)

/-- The command a good frame spells on a port, by its kind byte (R168) and its layout (R181). -/
def decodeKind (p : Port) (f : List Byte) : Instr :=
  let tag := byteAt f 1
  match (byteAt f 0).toNat with
  | 0x10 => .demand p tag (halfAt f 2) (byteAt f 4)
  | 0x20 => .envelope p tag (halfAt f 2) (halfAt f 4) (halfAt f 6) (byteAt f 8)
  | 0x30 => .reference p tag (halfAt f 2) (byteAt f 4)
  | 0x41 => .setParam p tag (byteAt f 2) (halfAt f 4)
  | 0x42 => .readParam p tag (byteAt f 2)
  | 0x43 => .writeCells p tag (byteAt f 2) (byteAt f 3) (byteAt f 4) (byteAt f 5)
      (halfAt f 6) (halfAt f 8) (halfAt f 10) (halfAt f 12)
  | 0x44 => .selectMaps p tag (byteAt f 2) (byteAt f 3)
  | 0x51 => .start p tag
  | 0x52 => .stop p tag
  | 0x53 => .configure p tag
  | 0x54 => .clearFault p tag (byteAt f 2)
  | 0x61 => .queueSegment p tag (byteAt f 2) (byteAt f 3) (byteAt f 4) (halfAt f 6) (halfAt f 8)
  | 0x62 => .abortProgram p tag
  | 0x71 => .intervene p tag (byteAt f 2) (byteAt f 3) (byteAt f 4) (halfAt f 6) (halfAt f 8)
  | 0x72 => .release p tag (byteAt f 2)
  | 0x7F => .poll p tag
  | _ => .unknownKind p tag (byteAt f 0)

/-- The command that twenty received bytes are: a frame whose CRC does not match is CRC_ERROR (R167). -/
def decodeFrame (p : Port) (frame : List Byte) : Instr :=
  if goodFrame frame then decodeKind p frame else .crcError p

/-- A frame of twenty bytes from its first eighteen: the CRC with its low byte first (R167). -/
def sealFrame (body : List Byte) : List Byte := body ++ [lowByte (crc body), highByte (crc body)]

/-- The eighteen bytes of a frame before its CRC: kind, tag and the payload's first bytes, every
unlisted payload byte 0 (R181). -/
def frameBody (kind tag : Byte) (payload : List Byte) : List Byte :=
  kind :: tag :: (payload ++ List.replicate (16 - payload.length) 0#8)

/-- The twenty bytes of the frame that a frame command is, with every unlisted byte 0 (R168, R181);
none for a command that is no good frame. -/
def commandFrame : Instr → Option (List Byte)
  | .demand _ tag t b => some (sealFrame (frameBody 0x10#8 tag [lowByte t, highByte t, b]))
  | .envelope _ tag d r v b => some (sealFrame (frameBody 0x20#8 tag
      [lowByte d, highByte d, lowByte r, highByte r, lowByte v, highByte v, b]))
  | .reference _ tag v b => some (sealFrame (frameBody 0x30#8 tag [lowByte v, highByte v, b]))
  | .setParam _ tag i v => some (sealFrame (frameBody 0x41#8 tag [i, 0#8, lowByte v, highByte v]))
  | .readParam _ tag i => some (sealFrame (frameBody 0x42#8 tag [i]))
  | .writeCells _ tag m s st c v0 v1 v2 v3 => some (sealFrame (frameBody 0x43#8 tag
      [m, s, st, c, lowByte v0, highByte v0, lowByte v1, highByte v1, lowByte v2, highByte v2,
       lowByte v3, highByte v3]))
  | .selectMaps _ tag d r => some (sealFrame (frameBody 0x44#8 tag [d, r]))
  | .start _ tag => some (sealFrame (frameBody 0x51#8 tag []))
  | .stop _ tag => some (sealFrame (frameBody 0x52#8 tag []))
  | .configure _ tag => some (sealFrame (frameBody 0x53#8 tag []))
  | .clearFault _ tag i => some (sealFrame (frameBody 0x54#8 tag [i]))
  | .queueSegment _ tag i sh e t d => some (sealFrame (frameBody 0x61#8 tag
      [i, sh, e, 0#8, lowByte t, highByte t, lowByte d, highByte d]))
  | .abortProgram _ tag => some (sealFrame (frameBody 0x62#8 tag []))
  | .intervene _ tag i k a v l => some (sealFrame (frameBody 0x71#8 tag
      [i, k, a, 0#8, lowByte v, highByte v, lowByte l, highByte l]))
  | .release _ tag i => some (sealFrame (frameBody 0x72#8 tag [i]))
  | .poll _ tag => some (sealFrame (frameBody 0x7F#8 tag []))
  | .unknownKind _ tag k => some (sealFrame (frameBody k tag []))
  | .periodExpiry => none
  | .completion => none
  | .lifetimeExpiry => none
  | .deadlineExpiry _ => none
  | .receiveIdle _ => none
  | .frameGap _ => none
  | .framingError _ => none
  | .byteInHunt _ => none
  | .crcError _ => none
  | .transmitCompletion _ => none
  | .shutoffAssert => none
  | .shutoffRelease => none
  | .resetAssert => none
  | .resetRelease => none
  | .byteArrival _ _ => none

/-- The command that a word of the opcode table spells. No row of spec/opcode_table.json gives bits
(spec 98: n_rows_with_fixed 0, n_rows_unread 32), so no word spells a command (log entry 18). -/
def decodeTableWord (_nbits _w : Nat) : Option Instr := none

end Sys2Proof
end

