-- ==== Sys2Proof/Machine/Params.lean ====
section
/-! DEFINITION. The 40 parameters of the Parameter Store: their ids, ranges and reset defaults
(spec 10, R161). -/
namespace Sys2Proof.Machine

/-- The 40 parameters, by id (spec 10, R161). -/
abbrev Params := Vector Nat 40

/-- The parameter of an id. -/
def Params.read (ps : Params) (i : Fin 40) : Nat := ps[i.val]

/-- The parameters after a write of one of them. -/
def Params.write (ps : Params) (i : Fin 40) (v : Nat) : Params := ps.set i.val v i.isLt

namespace Param

def periodUs : Fin 40 := 0
def speedBp (i : Fin 8) : Fin 40 := ⟨i.val + 1, by omega⟩
def demandBp (i : Fin 8) : Fin 40 := ⟨i.val + 9, by omega⟩
def riseF : Fin 40 := 17
def riseR : Fin 40 := 18
def sTgt : Fin 40 := 19
def kUp : Fin 40 := 20
def kDn : Fin 40 := 21
def corrMax : Fin 40 := 22
def vFloor : Fin 40 := 23
def stallTorque : Fin 40 := 24
def stallSpeed : Fin 40 := 25
def stallWindow : Fin 40 := 26
def stallCap : Fin 40 := 27
def slipQual : Fin 40 := 28
def winV : Fin 40 := 29
def winF : Fin 40 := 30
def winR : Fin 40 := 31
def winS : Fin 40 := 32
def holdV : Fin 40 := 33
def decayV : Fin 40 := 34
def limpCap : Fin 40 := 35
def statusDiv : Fin 40 := 36
def actionMask : Fin 40 := 37
def lineMask : Fin 40 := 38
def grant : Fin 40 := 39

/-- The four windows, which the window lock protects (spec 10, R160). -/
def isWindow (i : Nat) : Bool := 29 ≤ i && i ≤ 32

end Param

/-- The reset default of every parameter (spec 10, R161). -/
def paramDefaults : Params :=
  #v[1000,
     0, 100, 200, 400, 600, 900, 1200, 1600,
     0, 1000, 2000, 4000, 6000, 8000, 11000, 14000,
     40, 40, 80, 8, 2, 300, 30,
     3000, 5, 2000, 1500, 500,
     20, 10, 10, 20,
     50, 20, 6000, 10, 3, 255, 0]

/-- The least and the greatest value of a parameter (spec 10, R161). -/
def paramRange (i : Nat) : Nat × Nat :=
  match i with
  | 0 => (500, 2000)
  | 1 | 2 | 3 | 4 | 5 | 6 | 7 | 8 => (0, 2500)
  | 9 | 10 | 11 | 12 | 13 | 14 | 15 | 16 => (0, 16000)
  | 17 => (1, 2000)
  | 18 => (1, 2000)
  | 19 => (0, 500)
  | 20 => (1, 64)
  | 21 => (1, 100)
  | 22 => (0, 600)
  | 23 => (10, 200)
  | 24 => (500, 8000)
  | 25 => (0, 50)
  | 26 => (10, 5000)
  | 27 => (0, 7999)
  | 28 => (1, 5000)
  | 29 | 30 | 31 | 32 => (2, 200)
  | 33 => (0, 500)
  | 34 => (1, 2000)
  | 35 => (0, 16000)
  | 36 => (1, 64)
  | 37 => (0, 3)
  | 38 => (0, 255)
  | _ => (0, 3)

/-- The value lies inside the parameter's range; PERIOD_US takes its three values only (R161, R162). -/
def paramAdmits (i v : Nat) : Bool :=
  (paramRange i).1 ≤ v && v ≤ (paramRange i).2 && (i != 0 || v == 500 || v == 1000 || v == 2000)

end Sys2Proof.Machine
end

