-- ==== Sys2Proof/Machine/State.lean ====
section
/-! DEFINITION. Everything the spec gives the WT-2240 to hold, block by block (spec 00, "Blocks"), as
plain data; the state after RESET; the reasons a step could stop. -/
namespace Sys2Proof.Machine

/-- The two axles. PF is the front unit's port, PR the rear unit's (spec 05, R69). -/
inductive Axle where
  | front | rear
  deriving DecidableEq, Repr

/-- One of a thing for each axle. -/
structure PerAxle (α : Type) where
  front : α
  rear : α
  deriving DecidableEq, Repr

def PerAxle.get {α : Type} (x : PerAxle α) : Axle → α
  | .front => x.front
  | .rear => x.rear

def PerAxle.set {α : Type} (x : PerAxle α) (a : Axle) (v : α) : PerAxle α :=
  match a with
  | .front => { x with front := v }
  | .rear => { x with rear := v }

/-- One of a thing for each port. -/
structure PerPort (α : Type) where
  pv : α
  pf : α
  pr : α
  ps : α
  deriving DecidableEq, Repr

def PerPort.get {α : Type} (x : PerPort α) : Port → α
  | .pv => x.pv
  | .pf => x.pf
  | .pr => x.pr
  | .ps => x.ps

def PerPort.set {α : Type} (x : PerPort α) (p : Port) (v : α) : PerPort α :=
  match p with
  | .pv => { x with pv := v }
  | .pf => { x with pf := v }
  | .pr => { x with pr := v }
  | .ps => { x with ps := v }

def PerPort.map {α β : Type} (f : α → β) (x : PerPort α) : PerPort β :=
  ⟨f x.pv, f x.pf, f x.pr, f x.ps⟩

/-- The eight faults, ids 0 to 7 in this order (spec 09, R133). -/
inductive FaultId where
  | linkV | linkF | linkR | linkS | stallF | stallR | slipF | slipR
  deriving DecidableEq, Repr

/-- One of a thing for each fault. -/
structure PerFault (α : Type) where
  linkV : α
  linkF : α
  linkR : α
  linkS : α
  stallF : α
  stallR : α
  slipF : α
  slipR : α
  deriving DecidableEq, Repr

def PerFault.get {α : Type} (x : PerFault α) : FaultId → α
  | .linkV => x.linkV
  | .linkF => x.linkF
  | .linkR => x.linkR
  | .linkS => x.linkS
  | .stallF => x.stallF
  | .stallR => x.stallR
  | .slipF => x.slipF
  | .slipR => x.slipR

def PerFault.set {α : Type} (x : PerFault α) (f : FaultId) (v : α) : PerFault α :=
  match f with
  | .linkV => { x with linkV := v }
  | .linkF => { x with linkF := v }
  | .linkR => { x with linkR := v }
  | .linkS => { x with linkS := v }
  | .stallF => { x with stallF := v }
  | .stallR => { x with stallR := v }
  | .slipF => { x with slipF := v }
  | .slipR => { x with slipR := v }

def PerFault.map {α β : Type} (f : α → β) (x : PerFault α) : PerFault β :=
  ⟨f x.linkV, f x.linkF, f x.linkR, f x.linkS, f x.stallF, f x.stallR, f x.slipF, f x.slipR⟩

/-- The device states (spec 10, R151). -/
inductive Mode where
  | config | run | halt
  deriving DecidableEq, Repr

/-- The levels of the three discrete lines; true is asserted (spec 00; spec 10 R158, R159; spec 09 R149). -/
structure Lines where
  reset : Bool
  shutoff : Bool
  fault : Bool
  deriving DecidableEq, Repr

/-- The Mode Controller: device state and window lock (spec 10, R151). -/
structure ModeController where
  state : Mode
  windowLock : Bool
  deriving DecidableEq, Repr

/-- The Map Store: four maps of 64 cells and the two selections (spec 03, R42). -/
structure MapStore where
  cells : Vector (Vector Nat 64) 4
  drive : Fin 4
  regen : Fin 4
  deriving DecidableEq, Repr

/-- The Demand Record; propulsion true is ON (spec 06, R85). -/
structure DemandRecord where
  torque : Int
  propulsion : Bool
  deriving DecidableEq, Repr

/-- Whether any ENVELOPE frame has been taken since RESET (spec 05, R68). -/
inductive RecordState where
  | absent | reporting
  deriving DecidableEq, Repr

/-- An Axle Record (spec 05, R68). -/
structure AxleRecord where
  state : RecordState
  driveMax : Nat
  regenMax : Nat
  speed : Int
  ready : Bool
  deriving DecidableEq, Repr

/-- The Reference Record (spec 05, R80). -/
structure ReferenceRecord where
  present : Bool
  speed : Int
  valid : Bool
  deriving DecidableEq, Repr

/-- Whether a port's deadline has passed without a good frame (spec 06, section 6.2). -/
inductive Freshness where
  | fresh | stale
  deriving DecidableEq, Repr

/-- A port's deadline (spec 06, section 6.2). A FRESH port of the armed supervisor with remaining 0 is
one whose deadline expiry is due. `countedAhead` is the model's own (log entry 8): the port's deadline
expiry was taken ahead of the PERIOD_EXPIRY of the same instant. -/
structure Deadline where
  freshness : Freshness
  remaining : Nat
  countedAhead : Bool
  deriving DecidableEq, Repr

/-- The Link Supervisor (spec 06, section 6.2). -/
structure Supervisor where
  armed : Bool
  deadlines : PerPort Deadline
  deriving DecidableEq, Repr

/-- What an intervention constrains; an AXLE_CAP names its axle (spec 07, section 7.1). -/
inductive Constraint where
  | axleCap (axle : Axle)
  | totalCap
  | shareFloor
  | shareCeil
  deriving DecidableEq, Repr

/-- An entry of the Intervention Table (spec 07, section 7.1). -/
structure Entry where
  id : Nat
  constraint : Constraint
  value : Nat
  lifetime : Nat
  deriving DecidableEq, Repr

/-- The two shapes of a segment (spec 08, section 8.1). -/
inductive Shape where
  | step | ramp
  deriving DecidableEq, Repr

/-- A segment of a bias program; `last` is its END flag (spec 08, section 8.1). -/
structure Segment where
  program : Nat
  target : Nat
  duration : Nat
  shape : Shape
  last : Bool
  deriving DecidableEq, Repr

/-- The program state (spec 08, R116). -/
inductive ProgramState where
  | idle | running
  deriving DecidableEq, Repr

/-- The Program Queue, head first (spec 08, R116). -/
structure ProgramQueue where
  segments : List Segment
  state : ProgramState
  headCount : Nat
  startShare : Option Int
  deriving DecidableEq, Repr

/-- The states of a fault (spec 09, R134, R135). -/
inductive FaultState where
  | clear | pending | active | latched
  deriving DecidableEq, Repr

/-- A fault record; `latest` true is a present observation (spec 09, R134). -/
structure FaultRecord where
  state : FaultState
  count : Nat
  latest : Bool
  deriving DecidableEq, Repr

/-- The result flags of a computation, groups A and B (spec 01, R13). -/
structure SplitFlags where
  satF : Bool
  satR : Bool
  redist : Bool
  shortfall : Bool
  rateF : Bool
  rateR : Bool
  conflict : Bool
  totalCapped : Bool
  held : Bool
  idle : Bool
  program : Bool
  fallbackRef : Bool
  deriving DecidableEq, Repr

/-- Where s_base came from (spec 01, R11). -/
inductive ShareSource where
  | map | program
  deriving DecidableEq, Repr

/-- The Split Record (spec 01, R11). -/
structure SplitRecord where
  periodNumber : BitVec 16
  dUsed : Int
  totalCap : Option Int
  source : ShareSource
  sBase : Int
  corr : PerAxle Int
  sFinal : Int
  limit : PerAxle Int
  request : PerAxle Int
  sent : PerAxle Int
  shortfall : Int
  flags : SplitFlags
  deriving DecidableEq, Repr

/-- What a computation reads of a RUNNING Program Queue (spec 01, R4; spec 08, R124). -/
structure ProgramInput where
  segment : Segment
  count : Nat
  startShare : Option Int
  deriving DecidableEq, Repr

/-- Everything a computation reads at its start and holds until it completes (spec 01, R4). -/
structure Inputs where
  mode : Mode
  demand : DemandRecord
  axles : PerAxle AxleRecord
  reference : ReferenceRecord
  driveCells : Vector Nat 64
  regenCells : Vector Nat 64
  constraints : List (Constraint × Nat)
  program : Option ProgramInput
  faults : PerFault FaultState
  stallAction : PerAxle Bool
  params : Params
  corr : PerAxle Int
  prev : PerAxle Int
  holdCount : Nat
  heldValue : Int
  deriving DecidableEq, Repr

/-- The Split Engine: the period timer and what it holds between computations (spec 01, R1, R3, R9).
`interval` is the length in µs of the interval in progress, none while the timer is stopped; `inFlight`
holds the inputs of the computation in flight. -/
structure Engine where
  interval : Option Nat
  inFlight : Option Inputs
  startMark : Bool
  periodNumber : BitVec 16
  corr : PerAxle Int
  prev : PerAxle Int
  holdCount : Nat
  heldValue : Int
  record : SplitRecord
  deriving DecidableEq, Repr

/-- The content of an AXLE_CMD frame (spec 01, R14). -/
structure AxleCmd where
  torque : Int
  periodNumber : BitVec 16
  mode : Mode
  available : Bool
  flags : SplitFlags
  limit : Int
  deriving DecidableEq, Repr

/-- The outcomes a REPLY carries (spec 11, R172). -/
inductive ReplyCode where
  | ok | clamped | permission | unknownKind | state | range | full | mismatch | tooLong | notFound
  | inUse | configInvalid | conditionPresent | locked
  deriving DecidableEq, Repr

/-- The content of a REPLY frame (spec 11, R172). -/
structure Reply where
  tag : Byte
  kind : Byte
  outcome : ReplyCode
  value : Nat
  deriving DecidableEq, Repr

/-- The slots a frame is sent from (spec 11, R176). -/
inductive Slot where
  | command | reply | status
  deriving DecidableEq, Repr

/-- A frame on the transmit line: its slot and its twenty bytes (spec 11, R176, R177). -/
structure Transmission where
  slot : Slot
  bytes : List Byte
  deriving DecidableEq, Repr

/-- The receive state, with the bytes of the frame so far (spec 11, R165). -/
inductive Receiver where
  | hunt
  | ready
  | receiving (held : List Byte)
  deriving DecidableEq, Repr

/-- A port's sticky set (spec 11, R178). -/
structure StickySet where
  linkError : Bool
  overrun : Bool
  clamped : Bool
  faults : PerFault Bool
  deriving DecidableEq, Repr

/-- A Link Port (spec 11): receive state, reply slot, status slot, transmitter, sticky set. The command
slots of PF and PR stand in `State.commands`. -/
structure LinkPort where
  receiver : Receiver
  reply : Option Reply
  statusWaiting : Bool
  sending : Option Transmission
  sticky : StickySet
  deriving DecidableEq, Repr

/-! The instant: the model's own (log entries 22 to 24). -/

/-- In which order the two changes of a command are taken, where two blocks take them: both before the
next command, or the first or the second of them alone, and the other after the next command of the
instant, or at the instant's end (R5, R20, R83, R88, R95). -/
inductive Order where
  | whole | firstNow | secondNow
  deriving DecidableEq, Repr

/-- How a waiting command falls in time: at the same instant as the command before it, or later; and the
order of its two changes. -/
structure Timing where
  joins : Bool
  order : Order
  deriving DecidableEq, Repr

/-- The change of a command that is taken after the next command of the instant, or at its end. -/
inductive Remainder where
  | freshEvent (p : Port)
  | demandRecord (torque : Half) (propulsion : Byte)
  | referenceRecord (speed : Half) (valid : Byte)
  | computationStart
  | countdown
  deriving DecidableEq, Repr

/-- The instant the block stands at: the timings of the waiting commands, oldest first (a command with
none is whole, at an instant of its own); the change that the command before the front one has left;
whether the deadlines' countdown of this instant has been taken. -/
structure Instant where
  timing : List Timing
  remainder : Option Remainder
  counted : Bool
  deriving DecidableEq, Repr

/-- The whole state of the block. `pending` is the model's own: the commands that are waiting, oldest
first (log entry 2); `instant` is its companion (log entry 22). -/
structure State where
  lines : Lines
  mode : ModeController
  params : Params
  maps : MapStore
  demand : DemandRecord
  axles : PerAxle AxleRecord
  reference : ReferenceRecord
  supervisor : Supervisor
  table : List Entry
  queue : ProgramQueue
  faults : PerFault FaultRecord
  engine : Engine
  commands : PerAxle (Option AxleCmd)
  ports : PerPort LinkPort
  instant : Instant
  pending : List Instr
  deriving DecidableEq, Repr

/-- Why a command could stop the machine with a fault: nothing in the manual does, so there is no such
reason and no step answers a fault (log entry 19). -/
inductive Fault where
  deriving DecidableEq, Repr

/-- Why a command could have no meaning. -/
inductive Refusal where
  /-- Raised by an arm of exec whose command has no meaning yet; safe. No arm raises it (log entry 19). -/
  | notModelled (mnemonic : String)
  deriving DecidableEq, Repr

/-- No flag set (spec 01, R12, R13). -/
def SplitFlags.none : SplitFlags :=
  ⟨false, false, false, false, false, false, false, false, false, false, false, false⟩

/-- The Split Record after RESET (spec 01, R12). -/
def SplitRecord.reset : SplitRecord :=
  { periodNumber := 0#16, dUsed := 0, totalCap := Option.none, source := .map, sBase := 0,
    corr := ⟨0, 0⟩, sFinal := 0, limit := ⟨0, 0⟩, request := ⟨0, 0⟩, sent := ⟨0, 0⟩, shortfall := 0,
    flags := SplitFlags.none }

/-- An Axle Record after RESET (spec 05, R68). -/
def AxleRecord.reset : AxleRecord := ⟨.absent, 0, 0, 0, false⟩

/-- The sticky set with nothing marked (spec 11, R178). -/
def StickySet.empty : StickySet :=
  ⟨false, false, false, ⟨false, false, false, false, false, false, false, false⟩⟩

/-- A Link Port after RESET (spec 11, R180). -/
def LinkPort.reset : LinkPort := ⟨.hunt, Option.none, false, Option.none, StickySet.empty⟩

/-- A fault record after RESET (spec 09, R134). -/
def FaultRecord.reset : FaultRecord := ⟨.clear, 0, false⟩

/-- The deadline of a port of the disarmed supervisor (spec 06, R93). -/
def Deadline.idle : Deadline := ⟨.fresh, 0, false⟩

/-- The Link Supervisor after RESET and after CONFIGURE: disarmed, every port FRESH (spec 06, R93). -/
def Supervisor.disarmed : Supervisor :=
  ⟨false, ⟨Deadline.idle, Deadline.idle, Deadline.idle, Deadline.idle⟩⟩

/-- The Program Queue after RESET and after an abort (spec 08, R116, section 8.6). -/
def ProgramQueue.empty : ProgramQueue := ⟨[], .idle, 0, Option.none⟩

/-- The Split Engine at the release of RESET: the first interval has begun (spec 01, R1, R9). -/
def Engine.reset : Engine :=
  { interval := some (paramDefaults.read Param.periodUs), inFlight := Option.none, startMark := false,
    periodNumber := 0#16, corr := ⟨0, 0⟩, prev := ⟨0, 0⟩, holdCount := 0, heldValue := 0,
    record := SplitRecord.reset }

/-- The Map Store after RESET (spec 03, R42). -/
def MapStore.reset : MapStore :=
  ⟨Vector.replicate 4 (Vector.replicate 64 Config.resetShare), 0, 0⟩

/-- The block right after RESET: asserted and released, every piece of state at the reset value the
spec gives it (R12, R42, R68, R80, R85, R93, R98, R116, R134, R151, R159, R161, R180). The level of
SHUTOFF is an input: released is a DESIGN CHOICE (log entry 4). The model's own fields start with nothing
waiting, nothing left and nothing counted (DESIGN CHOICE: log entries 2, 8, 22 to 24). -/
def State.reset : State :=
  { lines := ⟨false, false, false⟩
    mode := ⟨.config, false⟩
    params := paramDefaults
    maps := MapStore.reset
    demand := ⟨0, false⟩
    axles := ⟨AxleRecord.reset, AxleRecord.reset⟩
    reference := ⟨false, 0, false⟩
    supervisor := Supervisor.disarmed
    table := []
    queue := ProgramQueue.empty
    faults := ⟨FaultRecord.reset, FaultRecord.reset, FaultRecord.reset, FaultRecord.reset,
      FaultRecord.reset, FaultRecord.reset, FaultRecord.reset, FaultRecord.reset⟩
    engine := Engine.reset
    commands := ⟨Option.none, Option.none⟩
    ports := ⟨LinkPort.reset, LinkPort.reset, LinkPort.reset, LinkPort.reset⟩
    instant := ⟨[], Option.none, false⟩
    pending := [] }

end Sys2Proof.Machine
end

