-- ==== Sys2Proof/Machine/Operands.lean ====
section
/-! DEFINITION. How the fields a frame carries become the values the records hold: clamps and byte
readings (spec 05 R70, R81; spec 06 R86; spec 07 R101; spec 11 R181), and the frame's numeric codes. -/
namespace Sys2Proof.Machine

/-- "Clamped to lo..hi": lo below it, hi above it, its own value otherwise (spec 00, "Arithmetic"). -/
def clampInt (lo hi x : Int) : Int :=
  if x < lo then lo else if hi < x then hi else x

/-- A magnitude held to a largest value (spec 05 R70, spec 07 R101). -/
def capNat (most x : Nat) : Nat := if x ≤ most then x else most

/-- A byte field read as set or ON: nonzero (spec 11, R181). -/
def byteSet (b : Byte) : Bool := b != 0#8

/-- The torque a DEMAND frame stores (spec 06, R86). -/
def demandTorque (t : Half) : Int := clampInt Config.demandMin Config.demandMax t.toInt

/-- The speed an ENVELOPE or REFERENCE frame stores (spec 05, R70, R81). -/
def storedSpeed (v : Half) : Int := clampInt Config.speedMin Config.speedMax v.toInt

/-- The limit an ENVELOPE frame stores (spec 05, R70). -/
def storedLimit (m : Half) : Nat := capNat Config.envelopeMax m.toNat

/-- The Demand Record a DEMAND frame leaves (spec 06, R86). -/
def demandRecord (torque : Half) (propulsion : Byte) : DemandRecord :=
  ⟨demandTorque torque, byteSet propulsion⟩

/-- The clamp changes a DEMAND frame's torque (spec 06, R86). -/
def demandClamps (torque : Half) : Bool := demandTorque torque != torque.toInt

/-- The Axle Record an ENVELOPE frame leaves (spec 05, R69, R70). -/
def envelopeRecord (driveMax regenMax speed : Half) (ready : Byte) : AxleRecord :=
  ⟨.reporting, storedLimit driveMax, storedLimit regenMax, storedSpeed speed, byteSet ready⟩

/-- A clamp changes one of an ENVELOPE frame's three numeric fields (spec 05, R70). -/
def envelopeClamps (driveMax regenMax speed : Half) : Bool :=
  storedLimit driveMax != driveMax.toNat || storedLimit regenMax != regenMax.toNat ||
    storedSpeed speed != speed.toInt

/-- The Reference Record a REFERENCE frame leaves (spec 05, R81). -/
def referenceRecord (speed : Half) (valid : Byte) : ReferenceRecord :=
  ⟨true, storedSpeed speed, byteSet valid⟩

/-- The clamp changes a REFERENCE frame's speed (spec 05, R81). -/
def referenceClamps (speed : Half) : Bool := storedSpeed speed != speed.toInt

/-- The 64 cells of a map (spec 03, R42). -/
def MapStore.map (x : MapStore) (m : Fin 4) : Vector Nat 64 := x.cells[m.val]

/-- The Map Store with one map's cells replaced. -/
def MapStore.setMap (x : MapStore) (m : Fin 4) (v : Vector Nat 64) : MapStore :=
  { x with cells := x.cells.set m.val v m.isLt }

/-- The axle of an axle code; none for a code above 1 (spec 07, section 7.2). -/
def axleOfCode (c : Byte) : Option Axle :=
  match c.toNat with
  | 0 => some .front
  | 1 => some .rear
  | _ => none

/-- The constraint an INTERVENE's kind and axle codes name; none when the kind code is above 3, or is
AXLE_CAP with an axle code above 1. For the other kinds the axle code is ignored (spec 07, R100). -/
def constraintOfCodes (kind axle : Byte) : Option Constraint :=
  match kind.toNat with
  | 0 => (axleOfCode axle).map .axleCap
  | 1 => some .totalCap
  | 2 => some .shareFloor
  | 3 => some .shareCeil
  | _ => none

/-- The largest value an entry of a kind holds (spec 07, R101). -/
def Constraint.most : Constraint → Nat
  | .axleCap _ => Config.capMax
  | .totalCap => Config.capMax
  | .shareFloor => Config.fullShare
  | .shareCeil => Config.fullShare

/-- The shape of a shape code; none above 1 (spec 08, section 8.2). -/
def shapeOfCode (c : Byte) : Option Shape :=
  match c.toNat with
  | 0 => some .step
  | 1 => some .ramp
  | _ => none

/-- The cell step of a WRITE_CELLS step code: 1 for ROW, 8 for COLUMN; none for another (spec 03, R46). -/
def strideOfCode (c : Byte) : Option Nat :=
  match c.toNat with
  | 0 => some 1
  | 1 => some 8
  | _ => none

/-- The fault of an id 0..7; none for another (spec 09, R133, R146). -/
def faultOfId (n : Nat) : Option FaultId :=
  match n with
  | 0 => some .linkV
  | 1 => some .linkF
  | 2 => some .linkR
  | 3 => some .linkS
  | 4 => some .stallF
  | 5 => some .stallR
  | 6 => some .slipF
  | 7 => some .slipR
  | _ => none

/-- The id of a fault (spec 09, R133). -/
def FaultId.id : FaultId → Nat
  | .linkV => 0
  | .linkF => 1
  | .linkR => 2
  | .linkS => 3
  | .stallF => 4
  | .stallR => 5
  | .slipF => 6
  | .slipR => 7

/-- The parameter of an id byte; none above 39 (spec 10, R162, R164). -/
def paramOfId (b : Byte) : Option (Fin 40) :=
  if h : b.toNat < 40 then some ⟨b.toNat, h⟩ else none

/-- The link fault that a port's stale and fresh events drive (spec 06, section 6.2). -/
def linkFault : Port → FaultId
  | .pv => .linkV
  | .pf => .linkF
  | .pr => .linkR
  | .ps => .linkS

/-- The window parameter of a port (spec 06, section 6.2). -/
def windowParam : Port → Fin 40
  | .pv => Param.winV
  | .pf => Param.winF
  | .pr => Param.winR
  | .ps => Param.winS

/-- The axle of a drive unit's port (spec 05, R69; spec 11, R175). -/
def portAxle : Port → Option Axle
  | .pf => some .front
  | .pr => some .rear
  | .pv => none
  | .ps => none

/-- The faults of an axle (spec 09, R133). -/
def axleLink : Axle → FaultId
  | .front => .linkF
  | .rear => .linkR
def axleStall : Axle → FaultId
  | .front => .stallF
  | .rear => .stallR
def axleSlip : Axle → FaultId
  | .front => .slipF
  | .rear => .slipR

end Sys2Proof.Machine
end

