-- ==== Sys2Proof/Machine/Flags.lean ====
section
/-! DEFINITION. The set and flag bytes of STATUS and AXLE_CMD frames (spec 11, R181), the codes of the
enumerated bytes, and the function the FAULT line is (spec 09, R149). -/
namespace Sys2Proof.Machine

/-- A byte from its bits, bit 0 first. -/
def bitsByte : List Bool → Byte
  | [] => 0#8
  | b :: bs => (bitsByte bs <<< 1) ||| (if b then 1#8 else 0#8)

/-- Split flag group A (spec 11, R181). -/
def SplitFlags.groupA (f : SplitFlags) : Byte :=
  bitsByte [f.satF, f.satR, f.redist, f.shortfall, f.rateF, f.rateR, f.conflict, f.totalCapped]

/-- Split flag group B (spec 11, R181). -/
def SplitFlags.groupB (f : SplitFlags) : Byte :=
  bitsByte [f.held, f.idle, f.program, f.fallbackRef]

/-- A fault set as a byte, bit n for fault id n (spec 11, R181). -/
def faultByte (x : PerFault Bool) : Byte :=
  bitsByte [x.linkV, x.linkF, x.linkR, x.linkS, x.stallF, x.stallR, x.slipF, x.slipR]

/-- The sticky events byte (spec 11, R181). -/
def StickySet.eventByte (x : StickySet) : Byte := bitsByte [x.linkError, x.overrun, x.clamped]

/-- The mode byte (spec 11, R181). -/
def Mode.code : Mode → Byte
  | .config => 0#8
  | .run => 1#8
  | .halt => 2#8

/-- The outcome byte (spec 11, R172). -/
def ReplyCode.code : ReplyCode → Byte
  | .ok => 0#8
  | .clamped => 1#8
  | .permission => 2#8
  | .unknownKind => 3#8
  | .state => 4#8
  | .range => 5#8
  | .full => 6#8
  | .mismatch => 7#8
  | .tooLong => 8#8
  | .notFound => 9#8
  | .inUse => 10#8
  | .configInvalid => 11#8
  | .conditionPresent => 12#8
  | .locked => 13#8

/-- A fault in force: ACTIVE or LATCHED (spec 09, R135). -/
def FaultState.inForce : FaultState → Bool
  | .active => true
  | .latched => true
  | .clear => false
  | .pending => false

/-- The line enable of a fault: the bit of LINE_MASK at its id (spec 09, R134). -/
def lineEnabled (ps : Params) (f : FaultId) : Bool := (ps.read Param.lineMask).testBit f.id

/-- The action enable of an axle's stall fault: bit 0 of ACTION_MASK for STALL_F, bit 1 for STALL_R
(spec 09, R134, R143). -/
def stallActionEnabled (ps : Params) : Axle → Bool
  | .front => (ps.read Param.actionMask).testBit 0
  | .rear => (ps.read Param.actionMask).testBit 1

/-- All eight faults, in the order of their ids. -/
def allFaults : List FaultId :=
  [.linkV, .linkF, .linkR, .linkS, .stallF, .stallR, .slipF, .slipR]

/-- The level of the FAULT line: asserted while at least one fault whose LINE_MASK bit is set is
ACTIVE or LATCHED (spec 09, R149). -/
def faultLineLevel (ps : Params) (fs : PerFault FaultRecord) : Bool :=
  allFaults.any fun f => (fs.get f).state.inForce && lineEnabled ps f

end Sys2Proof.Machine
end

