-- ==== Sys2Proof/Machine/Arithmetic.lean ====
section
/-! DEFINITION. The nine stages of the split computation (spec 02, spec 04): functions of the inputs
that the computation read at its start. Every division truncates toward zero (spec 00). -/
namespace Sys2Proof.Machine

/-- |x| (spec 00, "Arithmetic"). -/
def mag (x : Int) : Int := (x.natAbs : Int)

/-- trunc(x / y) (spec 00, "Arithmetic"). -/
def truncDiv (x y : Int) : Int := x.tdiv y

/-! Stage 1, demand (spec 02, section 2.1). -/

/-- LINK_V, LINK_S is ACTIVE as read at the start (spec 09, R135). -/
def Inputs.linkVActive (x : Inputs) : Bool := x.faults.linkV == .active
def Inputs.linkSActive (x : Inputs) : Bool := x.faults.linkS == .active

/-- What the demand stage forms before the cap: D0, its flags, and the new hold state (R20, R21). -/
structure DemandForm where
  d0 : Int
  idle : Bool
  held : Bool
  holdCount : Nat
  heldValue : Int
  deriving DecidableEq, Repr

/-- A held value moved toward 0 by a step without crossing 0 (R21). -/
def decayToward (h step : Int) : Int := h.sign * max 0 (mag h - step)

/-- The hold count of a case-4 computation: one more, stopping at 65535 (R21). -/
def nextHoldCount (n : Nat) : Nat := min (n + 1) Config.holdCountMax

/-- Case 4 of R20: the held or decayed demand (R21). -/
def heldDemand (x : Inputs) : Int :=
  if nextHoldCount x.holdCount ≤ x.params.read Param.holdV then x.demand.torque
  else decayToward x.heldValue (x.params.read Param.decayV)

/-- The uncapped demand by the first case of R20 that applies, with the hold state of R21. -/
def formDemand (x : Inputs) : DemandForm :=
  if x.linkVActive then
    if x.mode = .run then
      if x.demand.propulsion then
        ⟨heldDemand x, false, true, nextHoldCount x.holdCount, heldDemand x⟩
      else ⟨0, false, false, x.holdCount, x.heldValue⟩
    else ⟨0, true, false, x.holdCount, x.heldValue⟩
  else
    ⟨if x.mode = .run then (if x.demand.propulsion then x.demand.torque else 0) else 0,
     x.mode != .run, false, 0, x.demand.torque⟩

/-- The values of the entries of one constraint present at the start. -/
def constraintValues (x : Inputs) (c : Constraint) : List Nat :=
  (x.constraints.filter fun e => e.1 == c).map (·.2)

/-- The smallest of a list of values; none of an empty list. -/
def smallest : List Nat → Option Nat
  | [] => none
  | v :: vs =>
    match smallest vs with
    | none => some v
    | some w => some (min v w)

/-- The total cap in force: the smallest of the TOTAL_CAP entries and, while LINK_S is active, LIMP_CAP
(R22). -/
def totalCap (x : Inputs) : Option Nat :=
  smallest (constraintValues x .totalCap ++
    (if x.linkSActive then [x.params.read Param.limpCap] else []))

/-- The cap in force is exceeded by |D0| (R22). -/
def capExceeded (cap : Option Nat) (d0 : Int) : Bool :=
  match cap with
  | none => false
  | some c => decide ((c : Int) < mag d0)

/-- D_used: D0, with the magnitude of the cap where the cap is exceeded (R22). -/
def cappedDemand (cap : Option Nat) (d0 : Int) : Int :=
  match cap with
  | none => d0
  | some c => if (c : Int) < mag d0 then d0.sign * (c : Int) else d0

/-- D_used of a computation (R20, R22). -/
def usedDemand (x : Inputs) : Int := cappedDemand (totalCap x) (formDemand x).d0

/-! Axle availability (R23). -/

/-- The axle is available: REPORTING, ready, and its link fault not LATCHED (R23, R75). -/
def available (x : Inputs) (a : Axle) : Bool :=
  (x.axles.get a).state == .reporting && (x.axles.get a).ready &&
    x.faults.get (axleLink a) != .latched

/-- The speed read from the axle's record (R55). -/
def axleSpeed (x : Inputs) (a : Axle) : Int := (x.axles.get a).speed

/-! Stage 2, reference selection. -/

/-- The Reference Record can be used (R24). -/
def referenceUsable (x : Inputs) : Bool :=
  x.reference.present && x.reference.valid && !x.linkSActive

/-- σ′: the sign of D_used, +1 for 0 (R25). -/
def fallbackSign (d : Int) : Int := if d < 0 then -1 else 1

/-- The fallback reference: the speed v of the available axle for which σ′ × v is least; 0 when no axle
is available (R25). -/
def fallbackReference (x : Inputs) (d : Int) : Int :=
  let vf := axleSpeed x .front
  let vr := axleSpeed x .rear
  if available x .front then
    if available x .rear then
      if fallbackSign d * vf ≤ fallbackSign d * vr then vf else vr
    else vf
  else if available x .rear then vr
  else 0

/-- The reference speed (R24). -/
def referenceSpeed (x : Inputs) (d : Int) : Int :=
  if referenceUsable x then x.reference.speed else fallbackReference x d

/-! Stage 3, slip governor (spec 04). -/

/-- The slip ratio in per-mille, clamped to −2000..+2000 (R55). -/
def slipRatio (v vRef : Int) (vFloor : Nat) : Int :=
  clampInt (-Config.slipMax) Config.slipMax
    (truncDiv (1000 * (v - vRef)) (max (mag vRef) (vFloor : Int)))

/-- The directed slip e_a (R57). -/
def directedSlip (x : Inputs) (a : Axle) (d vRef : Int) : Int :=
  let slip := slipRatio (axleSpeed x a) vRef (x.params.read Param.vFloor)
  if !(available x a) || d = 0 then 0 else if 0 < d then slip else -slip

/-- The step of a rising correction (R58). -/
def slipStep (kUp : Nat) (excess : Int) : Int := max 1 (truncDiv ((kUp : Int) * excess) 16)

/-- The governor's new correction from the one read at the start (R58, R59). -/
def governed (ps : Params) (c e : Int) : Int :=
  if (ps.read Param.sTgt : Int) < e then
    min (ps.read Param.corrMax : Int) (c + slipStep (ps.read Param.kUp) (e - ps.read Param.sTgt))
  else max 0 (c - (ps.read Param.kDn : Int))

/-- The correction the governor stage computes for an axle (R58, R59). -/
def governedCorr (x : Inputs) (a : Axle) (d vRef : Int) : Int :=
  governed x.params (x.corr.get a) (directedSlip x a d vRef)

/-! Stage 4, base share (R26 to R28, R124). -/

/-- The largest index whose breakpoint is at most the value; none when there is none (R27). -/
def lastAtMost (bps : List Nat) (v : Nat) : Option Nat :=
  ((List.range 8).filter fun i => bps.getD i 0 ≤ v).getLast?

/-- The index and the fraction of an axis (R27). -/
def axisPosition (bps : List Nat) (v : Nat) : Nat × Nat :=
  match lastAtMost bps v with
  | none => (0, 0)
  | some i =>
    if i = 7 then (7, 0)
    else (i, (v - bps.getD i 0) * 256 / (bps.getD (i + 1) 0 - bps.getD i 0))

/-- The breakpoints of the two axes, from the parameters. -/
def speedBps (ps : Params) : List Nat := (List.finRange 8).map fun i => ps.read (Param.speedBp i)
def demandBps (ps : Params) : List Nat := (List.finRange 8).map fun i => ps.read (Param.demandBp i)

/-- The cell of row i and column j, at index 8 × i + j (R43). -/
def cellAt (cells : Vector Nat 64) (i j : Nat) : Int := ((cells[8 * i + j]?.getD 0 : Nat) : Int)

/-- A blend from one value toward another by a fraction of 256 (R28). -/
def blend (c0 c1 : Int) (f : Nat) : Int := c0 + truncDiv ((c1 - c0) * (f : Int)) 256

/-- The row or column after one, 7 being the last (R28). -/
def nextIndex (i : Nat) : Nat := min (i + 1) 7

/-- The share of a map at a speed and a demand magnitude, in three blends (R27, R28). -/
def interpolate (ps : Params) (cells : Vector Nat 64) (speed demand : Nat) : Int :=
  let (i, fx) := axisPosition (speedBps ps) speed
  let (j, fy) := axisPosition (demandBps ps) demand
  let a := blend (cellAt cells i j) (cellAt cells (nextIndex i) j) fx
  let b := blend (cellAt cells i (nextIndex j)) (cellAt cells (nextIndex i) (nextIndex j)) fx
  blend a b fy

/-- The map share: the drive map for D_used ≥ 0, the regen map for D_used < 0, read at the magnitudes of
the reference speed and of D_used (R26). -/
def mapShare (x : Inputs) (d vRef : Int) : Int :=
  interpolate x.params (if d < 0 then x.regenCells else x.driveCells) vRef.natAbs d.natAbs

/-- The share a segment gives at its e-th computation from a start share (R124). -/
def segmentShare (g : Segment) (s0 : Int) (e : Nat) : Int :=
  match g.shape with
  | .step => (g.target : Int)
  | .ramp => s0 + truncDiv (((g.target : Int) - s0) * (e : Int)) (g.duration : Int)

/-- The start share a running program's computation uses: the head segment's, or the map share when
that is absent (R124). -/
def usedStartShare (pr : ProgramInput) (sMap : Int) : Int := pr.startShare.getD sMap

/-- The base share (R26): the program's while one is running, else the map's. -/
def baseShare (x : Inputs) (sMap : Int) : Int :=
  match x.program with
  | some pr => segmentShare pr.segment (usedStartShare pr sMap) (pr.count + 1)
  | none => sMap

/-- Where the base share came from (R26). -/
def baseSource (x : Inputs) : ShareSource :=
  match x.program with
  | some _ => .program
  | none => .map

/-! Stage 5, share composition (R30, R31). -/

/-- The share after slip correction, clamped to 0..1000 (R30). -/
def correctedShare (sBase cF cR : Int) : Int := clampInt 0 Config.fullShare (sBase - cR + cF)

/-- The floor: the largest SHARE_FLOOR value, 0 when there is none (R31). -/
def shareFloor (x : Inputs) : Nat := (constraintValues x .shareFloor).foldr max 0

/-- The ceiling: the smallest SHARE_CEIL value, 1000 when there is none (R31). -/
def shareCeil (x : Inputs) : Nat := (constraintValues x .shareCeil).foldr min Config.fullShare

/-- s_final: the floor first, then the ceiling (R31). -/
def finalShare (x : Inputs) (s1 : Int) : Int := min (max s1 (shareFloor x)) (shareCeil x)

/-! Stage 6, axle limits (R32, R33). -/

/-- The base limit of an axle (R32). -/
def baseLimit (x : Inputs) (a : Axle) (d : Int) : Nat :=
  if available x a then
    (if d < 0 then (x.axles.get a).regenMax else (x.axles.get a).driveMax)
  else 0

/-- STALL_CAP joins the axle's limit (R33). -/
def stallCaps (x : Inputs) (a : Axle) : Bool :=
  x.faults.get (axleStall a) == .latched && x.stallAction.get a

/-- L_a: the smallest of the base limit, the axle's caps, and STALL_CAP where it applies (R33). -/
def axleLimit (x : Inputs) (a : Axle) (d : Int) : Nat :=
  (constraintValues x (.axleCap a) ++
    (if stallCaps x a then [x.params.read Param.stallCap] else [])).foldr min (baseLimit x a d)

/-! Stages 7 and 8, split, clamp and redistribution (R34 to R37). -/

/-- The rear part r0; the front part is the exact remainder (R34). -/
def rearPart (d s : Int) : Int := truncDiv (d * s) 1000
def frontPart (d s : Int) : Int := d - rearPart d s

/-- What stage 8 hands on (R35, R37). -/
structure Placement where
  front : Int
  rear : Int
  shortfall : Int
  satF : Bool
  satR : Bool
  redist : Bool
  short : Bool
  deriving DecidableEq, Repr

/-- Clamp each part to its limit and offer the excess, once, to the other axle's headroom (R35); the
flags of R37. -/
def place (d r0 f0 lF lR : Int) : Placement :=
  let rc := min (mag r0) lR
  let er := mag r0 - rc
  let fc := min (mag f0) lF
  let ef := mag f0 - fc
  let fc' := fc + min er (lF - fc)
  let rc' := rc + min ef (lR - rc)
  { front := d.sign * fc'
    rear := d.sign * rc'
    shortfall := mag d - fc' - rc'
    satF := f0 != 0 && decide (lF ≤ mag f0)
    satR := r0 != 0 && decide (lR ≤ mag r0)
    redist := decide (fc < fc') || decide (rc < rc')
    short := decide (fc' + rc' < mag d) }

/-! Stage 9, rate limit (R38, R39). -/

/-- The magnitude a command may rise from: the previous one's when both have the same nonzero sign,
else 0 (R38, R39). -/
def riseFrom (prev req : Int) : Int := if prev ≠ 0 ∧ prev.sign = req.sign then mag prev else 0

/-- The rise is held back (R38, R39). -/
def riseHeld (rise : Nat) (prev req : Int) : Bool :=
  decide (riseFrom prev req + (rise : Int) < mag req)

/-- Tcmd_a (R38, R39). -/
def rateLimited (rise : Nat) (prev req : Int) : Int :=
  if riseFrom prev req + (rise : Int) < mag req then req.sign * (riseFrom prev req + (rise : Int))
  else req

/-! The whole computation. -/

/-- What the nine stages hand to the completion (spec 02). `sMap` is the map share; `command` holds
Tcmd_f and Tcmd_r; the flags are those of the stages. -/
structure SplitResult where
  dUsed : Int
  totalCap : Option Int
  sMap : Int
  source : ShareSource
  sBase : Int
  corr : PerAxle Int
  sFinal : Int
  available : PerAxle Bool
  limit : PerAxle Int
  request : PerAxle Int
  shortfall : Int
  command : PerAxle Int
  flags : SplitFlags
  holdCount : Nat
  heldValue : Int
  deriving DecidableEq, Repr

/-- The nine stages in their order (spec 01 R3, spec 02). -/
def computeSplit (x : Inputs) : SplitResult :=
  let form := formDemand x
  let cap := totalCap x
  let d := cappedDemand cap form.d0
  let vRef := referenceSpeed x d
  let cF := governedCorr x .front d vRef
  let cR := governedCorr x .rear d vRef
  let sMap := mapShare x d vRef
  let sBase := baseShare x sMap
  let sFinal := finalShare x (correctedShare sBase cF cR)
  let lF : Int := axleLimit x .front d
  let lR : Int := axleLimit x .rear d
  let pl := place d (rearPart d sFinal) (frontPart d sFinal) lF lR
  let riseF := x.params.read Param.riseF
  let riseR := x.params.read Param.riseR
  { dUsed := d
    totalCap := cap.map fun c => (c : Int)
    sMap := sMap
    source := baseSource x
    sBase := sBase
    corr := ⟨cF, cR⟩
    sFinal := sFinal
    available := ⟨available x .front, available x .rear⟩
    limit := ⟨lF, lR⟩
    request := ⟨pl.front, pl.rear⟩
    shortfall := pl.shortfall
    command := ⟨rateLimited riseF x.prev.front pl.front, rateLimited riseR x.prev.rear pl.rear⟩
    flags :=
      { satF := pl.satF
        satR := pl.satR
        redist := pl.redist
        shortfall := pl.short
        rateF := riseHeld riseF x.prev.front pl.front
        rateR := riseHeld riseR x.prev.rear pl.rear
        conflict := decide (shareCeil x < shareFloor x)
        totalCapped := capExceeded cap form.d0
        held := form.held
        idle := form.idle
        program := baseSource x == .program
        fallbackRef := !(referenceUsable x) }
    holdCount := form.holdCount
    heldValue := form.heldValue }

end Sys2Proof.Machine
end

