-- ==== Sys2Proof/Machine/Frames.lean ====
section
/-! DEFINITION. The three frames the part sends, as bytes (spec 11, R181), and the composition of a
STATUS frame from the state as it stands (spec 11, R177). -/
namespace Sys2Proof.Machine

/-- A signed field as sent: two's complement (spec 11, R181). -/
def intHalf (x : Int) : Half := BitVec.ofInt 16 x

/-- A set or ON field as sent: 1 for set (spec 11, R181). -/
def boolByte (b : Bool) : Byte := if b then 1#8 else 0#8

/-- The twenty bytes of an AXLE_CMD frame (spec 11, R181; tag 0, R14). -/
def AxleCmd.bytes (c : AxleCmd) : List Byte :=
  sealFrame (frameBody 0xA0#8 0#8
    [lowByte (intHalf c.torque), highByte (intHalf c.torque),
     lowByte c.periodNumber, highByte c.periodNumber,
     c.mode.code, boolByte c.available, c.flags.groupA, c.flags.groupB,
     lowByte (intHalf c.limit), highByte (intHalf c.limit)])

/-- The twenty bytes of a REPLY frame (spec 11, R172, R181). -/
def Reply.bytes (r : Reply) : List Byte :=
  sealFrame (frameBody 0x80#8 r.tag
    [r.kind, r.outcome.code, lowByte (BitVec.ofNat 16 r.value), highByte (BitVec.ofNat 16 r.value)])

/-- The id of the running program, 0 when the queue is IDLE (spec 08, R131). -/
def ProgramQueue.runningId (q : ProgramQueue) : Nat :=
  match q.state, q.segments with
  | .running, head :: _ => head.program
  | .running, [] => 0
  | .idle, _ => 0

/-- The twenty bytes of the STATUS frame that begins transmission on a port now: every field read as
it stands from the block that owns it, the sticky fields from this port's sticky set (spec 11, R177). -/
def statusBytes (s : State) (p : Port) : List Byte :=
  let sticky := (s.ports.get p).sticky
  let r := s.engine.record
  sealFrame (frameBody 0x90#8 0#8
    [s.mode.state.code,
     faultByte (s.faults.map fun x => x.state.inForce),
     faultByte (s.faults.map fun x => x.state == .latched),
     faultByte sticky.faults,
     sticky.eventByte,
     r.flags.groupA, r.flags.groupB,
     BitVec.ofNat 8 s.queue.runningId,
     BitVec.ofNat 8 s.queue.segments.length,
     BitVec.ofNat 8 s.table.length,
     lowByte (intHalf r.sent.front), highByte (intHalf r.sent.front),
     lowByte (intHalf r.sent.rear), highByte (intHalf r.sent.rear),
     lowByte (intHalf r.sFinal), highByte (intHalf r.sFinal)])

end Sys2Proof.Machine
end

