-- ==== Sys2Proof/Machine/Ops.lean ====
section
/-! DEFINITION. The operations that the commands' meanings share: updates of one block's state; fault
transitions and the FAULT line (spec 09); the abort of the Program Queue (spec 08); freshness (spec 06);
slots, transmit arbitration and the taking of a frame (spec 11). -/
namespace Sys2Proof.Machine

/-! Replacing one block's state. -/

def State.withLines (s : State) (x : Lines) : State := { s with lines := x }
def State.withMode (s : State) (x : ModeController) : State := { s with mode := x }
def State.withParams (s : State) (x : Params) : State := { s with params := x }
def State.withMaps (s : State) (x : MapStore) : State := { s with maps := x }
def State.withDemand (s : State) (x : DemandRecord) : State := { s with demand := x }
def State.withAxles (s : State) (x : PerAxle AxleRecord) : State := { s with axles := x }
def State.withReference (s : State) (x : ReferenceRecord) : State := { s with reference := x }
def State.withSupervisor (s : State) (x : Supervisor) : State := { s with supervisor := x }
def State.withTable (s : State) (x : List Entry) : State := { s with table := x }
def State.withQueue (s : State) (x : ProgramQueue) : State := { s with queue := x }
def State.withFaults (s : State) (x : PerFault FaultRecord) : State := { s with faults := x }
def State.withEngine (s : State) (x : Engine) : State := { s with engine := x }
def State.withCommands (s : State) (x : PerAxle (Option AxleCmd)) : State := { s with commands := x }
def State.withPorts (s : State) (x : PerPort LinkPort) : State := { s with ports := x }
def State.withInstant (s : State) (x : Instant) : State := { s with instant := x }
def State.withPending (s : State) (x : List Instr) : State := { s with pending := x }

/-- Replace one port's Link Port. -/
def State.withPort (s : State) (p : Port) (x : LinkPort) : State := s.withPorts (s.ports.set p x)

/-- The Link Port of a port. -/
def State.port (s : State) (p : Port) : LinkPort := s.ports.get p

/-- Change every port's Link Port. -/
def State.mapPorts (s : State) (f : LinkPort → LinkPort) : State := s.withPorts (s.ports.map f)

/-- The value of a parameter. -/
def State.param (s : State) (i : Fin 40) : Nat := s.params.read i

/-! Status triggers and sticky marks (spec 11, R174, R178). -/

/-- A status trigger places a status frame in the port's status slot, or leaves the one there (R174). -/
def triggerStatus (p : Port) (s : State) : State :=
  s.withPort p { s.port p with statusWaiting := true }

/-- A status trigger on all four ports (R19, R145, R152). -/
def triggerStatusAll (s : State) : State := s.mapPorts fun l => { l with statusWaiting := true }

/-- Mark LINK_ERROR on a port (R166, R167). -/
def markLinkError (p : Port) (s : State) : State :=
  let l := s.port p
  s.withPort p { l with sticky := { l.sticky with linkError := true } }

/-- Mark OVERRUN on a port (R171). -/
def markOverrun (p : Port) (s : State) : State :=
  let l := s.port p
  s.withPort p { l with sticky := { l.sticky with overrun := true } }

/-- Mark CLAMPED on a port (R70, R81, R86). -/
def markClamped (p : Port) (s : State) : State :=
  let l := s.port p
  s.withPort p { l with sticky := { l.sticky with clamped := true } }

/-- Mark a fault's id on all four ports (spec 09, R145). -/
def markFaultAll (f : FaultId) (s : State) : State :=
  s.mapPorts fun l => { l with sticky := { l.sticky with faults := l.sticky.faults.set f true } }

/-! The Program Queue's abort and the fault transitions. -/

/-- An abort empties the whole Program Queue (spec 08, section 8.6). -/
def abortQueue (s : State) : State := s.withQueue ProgramQueue.empty

/-- The FAULT line takes the level its inputs now give (spec 09, R149). -/
def reevaluateLine (s : State) : State :=
  s.withLines { s.lines with fault := faultLineLevel s.params s.faults }

/-- Set a fault's record. -/
def setFault (f : FaultId) (r : FaultRecord) (s : State) : State := s.withFaults (s.faults.set f r)

/-- The state a fault is in force in: LATCHED for the latching class, ACTIVE for the self-clearing one
(spec 09, R133, R135). -/
def inForceState : FaultId → FaultState
  | .linkV => .active
  | .linkF => .latched
  | .linkR => .latched
  | .linkS => .active
  | .stallF => .latched
  | .stallR => .latched
  | .slipF => .active
  | .slipR => .active

/-- The entry of this fault sends an abort (spec 09, R144). -/
def entryAborts : FaultId → Bool
  | .linkV => true
  | .linkF => true
  | .linkR => true
  | .linkS => false
  | .stallF => false
  | .stallR => false
  | .slipF => false
  | .slipR => false

/-- The entry of a fault into ACTIVE or LATCHED: the abort of R144, the marks and status triggers of
R145, the FAULT line of R149. The count and the latest observation keep their values (R137). -/
def enterFault (f : FaultId) (s : State) : State :=
  let s1 := setFault f { s.faults.get f with state := inForceState f } s
  let s2 := if entryAborts f then abortQueue s1 else s1
  reevaluateLine (triggerStatusAll (markFaultAll f s2))

/-- The return of a fault to CLEAR with count 0; the latest observation keeps its value (R138, R140,
R146). -/
def clearFault (f : FaultId) (s : State) : State :=
  reevaluateLine (setFault f { s.faults.get f with state := .clear, count := 0 } s)

/-- A stale event of a port: the entry of its link fault, unless it is already in force (R140). -/
def staleEvent (p : Port) (s : State) : State :=
  if (s.faults.get (linkFault p)).state.inForce then s else enterFault (linkFault p) s

/-- A fresh event of a port: an ACTIVE link fault returns to CLEAR; a LATCHED one stays (R140). -/
def freshEvent (p : Port) (s : State) : State :=
  if (s.faults.get (linkFault p)).state = .active then clearFault (linkFault p) s else s

/-! The Link Supervisor. -/

/-- Set a port's deadline. -/
def setDeadline (p : Port) (d : Deadline) (s : State) : State :=
  s.withSupervisor { s.supervisor with deadlines := s.supervisor.deadlines.set p d }

/-- The window of a port, from the parameter as it stands (spec 06, R96). -/
def window (s : State) (p : Port) : Nat := s.param (windowParam p)

/-- The deadline that begins on a FRESH port from its full window (spec 06, R89, R91). -/
def restartedDeadline (s : State) (p : Port) : Deadline :=
  { s.supervisor.deadlines.get p with remaining := window s p }

/-- A good frame on the port produces a fresh event (spec 06, R92). -/
def freshEventComes (s : State) (p : Port) : Bool :=
  s.supervisor.armed && (s.supervisor.deadlines.get p).freshness == .stale

/-- A good frame on a port: while the supervisor is armed, the refresh of a FRESH port (R91), or the
return of a STALE port to FRESH with its fresh event (R92). -/
def refreshPort (p : Port) (s : State) : State :=
  if s.supervisor.armed then
    match (s.supervisor.deadlines.get p).freshness with
    | .fresh => setDeadline p (restartedDeadline s p) s
    | .stale =>
      freshEvent p
        (setDeadline p
          { s.supervisor.deadlines.get p with freshness := .fresh, remaining := window s p } s)
  else s

/-- The deadline START leaves on a port: a FRESH port's restarts from its full window, a STALE port
stays STALE with no deadline running (spec 06, R89). -/
def armedDeadline (s : State) (p : Port) : Deadline :=
  match (s.supervisor.deadlines.get p).freshness with
  | .fresh => restartedDeadline s p
  | .stale => s.supervisor.deadlines.get p

/-- START arms the supervisor (spec 06, R89). -/
def armSupervisor (s : State) : State :=
  s.withSupervisor
    ⟨true, ⟨armedDeadline s .pv, armedDeadline s .pf, armedDeadline s .pr, armedDeadline s .ps⟩⟩

/-! Transmit arbitration (spec 11, R176). -/

/-- The frame waiting in the port's command slot; PV and PS have none (R175). -/
def waitingCommand (s : State) (p : Port) : Option AxleCmd :=
  match portAxle p with
  | some a => s.commands.get a
  | none => none

/-- The command slot of the port becomes empty (R175). -/
def emptyCommandSlot (p : Port) (s : State) : State :=
  match portAxle p with
  | some a => s.withCommands (s.commands.set a none)
  | none => s

/-- An idle transmitter takes the command slot, else the reply slot, else the status slot, and begins
(R176). The command and status slots are emptied as their frame begins (R174, R175); the reply slot
stays occupied until the REPLY's transmit completion (R173); a STATUS frame is composed now, with the
port's sticky set read and emptied (R177, R178). -/
def startTransmitter (p : Port) (s : State) : State :=
  let l := s.port p
  match l.sending with
  | some _ => s
  | none =>
    match waitingCommand s p with
    | some c => (emptyCommandSlot p s).withPort p { l with sending := some ⟨.command, c.bytes⟩ }
    | none =>
      match l.reply with
      | some r => s.withPort p { l with sending := some ⟨.reply, r.bytes⟩ }
      | none =>
        if l.statusWaiting then
          s.withPort p
            { l with
              statusWaiting := false
              sending := some ⟨.status, statusBytes s p⟩
              sticky := StickySet.empty }
        else s

/-- Every idle transmitter with a waiting frame begins (R176). Transmissions begin at the end of an
instant (log entry 10). -/
def startTransmitters (s : State) : State :=
  startTransmitter .ps (startTransmitter .pr (startTransmitter .pf (startTransmitter .pv s)))

/-! Taking a frame (spec 11, R171). -/

/-- Place a REPLY in the port's reply slot (R172). -/
def placeReply (p : Port) (r : Reply) (s : State) : State :=
  s.withPort p { s.port p with reply := some r }

/-- The port's reply slot is occupied (R173). -/
def replyOccupied (s : State) (p : Port) : Bool := (s.port p).reply.isSome

/-- A frame kind's code, for the REPLY and for the permission check (R168). -/
inductive Kind where
  | demand | envelope | reference | setParam | readParam | writeCells | selectMaps | start | stop
  | configure | clearFault | queueSegment | abortProgram | intervene | release | poll
  deriving DecidableEq, Repr

/-- The code of a received kind (R168). -/
def Kind.code : Kind → Byte
  | .demand => 0x10#8
  | .envelope => 0x20#8
  | .reference => 0x30#8
  | .setParam => 0x41#8
  | .readParam => 0x42#8
  | .writeCells => 0x43#8
  | .selectMaps => 0x44#8
  | .start => 0x51#8
  | .stop => 0x52#8
  | .configure => 0x53#8
  | .clearFault => 0x54#8
  | .queueSegment => 0x61#8
  | .abortProgram => 0x62#8
  | .intervene => 0x71#8
  | .release => 0x72#8
  | .poll => 0x7F#8

/-- A frame of a kind is permitted on a port: the fixed column first, then GRANT bit 0 for SELECT_MAPS
and bit 1 for ABORT_PROGRAM on PS (R170). -/
def permitted (s : State) (p : Port) (k : Kind) : Bool :=
  match k with
  | .demand => p == .pv
  | .envelope => p == .pf || p == .pr
  | .reference => p == .ps
  | .setParam => p == .pv
  | .readParam => p == .pv
  | .writeCells => p == .pv
  | .start => p == .pv
  | .stop => p == .pv
  | .configure => p == .pv
  | .clearFault => p == .pv
  | .queueSegment => p == .pv
  | .selectMaps => p == .pv || (p == .ps && (s.param Param.grant).testBit 0)
  | .abortProgram => p == .pv || (p == .ps && (s.param Param.grant).testBit 1)
  | .intervene => p == .ps
  | .release => p == .ps
  | .poll => true

/-- What an owning block answers: the state it leaves, the outcome and the value of its REPLY (R172). -/
structure Answer where
  state : State
  outcome : ReplyCode
  value : Nat
  deriving DecidableEq, Repr

/-- An answer that changes nothing. -/
def refuse (s : State) (c : ReplyCode) : Answer := ⟨s, c, 0⟩

/-- An answer OK with value 0. -/
def taken (s : State) : Answer := ⟨s, .ok, 0⟩

/-- A frame that will produce a REPLY, after its refresh: discarded with OVERRUN while the reply slot
is occupied, otherwise decided by `decide` with its REPLY placed last (R171, steps 4 and 5). -/
def answerFrame (p : Port) (tag kind : Byte) (decide : State → Answer) (s : State) : State :=
  if replyOccupied s p then markOverrun p s
  else
    let a := decide s
    placeReply p ⟨tag, kind, a.outcome, a.value⟩ a.state

/-- The arrival of a request: refresh, permission, overrun, its owning block (R171). -/
def takeRequest (p : Port) (tag : Byte) (k : Kind) (owner : State → Answer) (s : State) : State :=
  let s1 := refreshPort p s
  answerFrame p tag k.code (fun x => if permitted x p k then owner x else refuse x .permission) s1

/-- The arrival of an ENVELOPE or a POLL: where it is permitted it produces no REPLY and is never
discarded for overrun; elsewhere it is refused PERMISSION like any other frame (R170, R171). -/
def takeStreaming (p : Port) (tag : Byte) (k : Kind) (record : State → State) (s : State) : State :=
  let s1 := refreshPort p s
  if permitted s1 p k then record s1
  else answerFrame p tag k.code (fun x => refuse x .permission) s1

/-- Leave a change to be taken after the next command (log entry 23). -/
def leave (r : Remainder) (s : State) : State := s.withInstant { s.instant with remainder := some r }

/-- The two changes of a permitted DEMAND or REFERENCE: the fresh event and the record's update, which two
blocks take (spec 06, R88, R92; spec 05, R83). Where the frame produces no fresh event there is one
change, and it is whole. R91 and R171 take the refresh before the frame reaches its block; in secondNow the
whole fresh event, with the port's freshness and window, is taken after the record's update (DESIGN CHOICE,
unsafe: log entry 27). -/
def supervisionAndRecord (p : Port) (o : Order) (r : Remainder) (record : State → State) (s : State) :
    State :=
  match (if freshEventComes s p then o else .whole) with
  | .whole => record (refreshPort p s)
  | .firstNow => leave r (refreshPort p s)
  | .secondNow => leave (.freshEvent p) (record s)

/-- The arrival of a DEMAND or a REFERENCE: as any streaming frame, but that its two changes may be taken
apart; `r` is the update as left for later (R170, R171). -/
def takeRecord (p : Port) (tag : Byte) (k : Kind) (o : Order) (r : Remainder) (record : State → State)
    (s : State) : State :=
  if permitted s p k then supervisionAndRecord p o r record s
  else answerFrame p tag k.code (fun x => refuse x .permission) (refreshPort p s)

/-- The arrival of a good frame of an unknown kind (R169, R171). -/
def takeUnknown (p : Port) (tag kind : Byte) (s : State) : State :=
  answerFrame p tag kind (fun x => refuse x .unknownKind) (refreshPort p s)

/-- The receiver of a port. -/
def setReceiver (p : Port) (r : Receiver) (s : State) : State :=
  s.withPort p { s.port p with receiver := r }

/-- With the nineteen bytes held, the arrival of the last byte of a good frame gives this command: the
held bytes and the CRC's high byte spell it (R165, R167). -/
def completes (p : Port) (held : List Byte) (c : Instr) : Bool :=
  held.length == 19 && decodeFrame p (held ++ [highByte (crc (held.take 18))]) == c

/-- A frame command: the last byte of the frame arrives. While RESET is asserted the port ignores it
(R180). Where nineteen bytes are held they must be this frame's; where the receiver is in HUNT or READY
the frame's idle time and earlier bytes went unlisted and are taken with it (log entry 7); otherwise
this frame cannot complete here and nothing changes (log entry 6). The receiver returns to HUNT (R165)
and the frame is taken. -/
def frameArrives (c : Instr) (p : Port) (take : State → State) (s : State) : State :=
  if s.lines.reset then s
  else
    match (s.port p).receiver with
    | .hunt => take (setReceiver p .hunt s)
    | .ready => take (setReceiver p .hunt s)
    | .receiving held => if completes p held c then take (setReceiver p .hunt s) else s

/-- What every meaning answers: a next state. -/
abbrev Result := Host.Outcome State Fault Refusal

end Sys2Proof.Machine
end

