-- ==== Sys2Proof/Machine/Computation.lean ====
section
/-! DEFINITION. What the Split Engine and the Link Supervisor do at a period expiry and at a completion:
the start of a computation, the countdown of the deadlines, the completion (spec 01; spec 06 R90; spec 08
R123, R126; spec 09 R136 to R138). -/
namespace Sys2Proof.Machine

/-! The start of a computation. -/

/-- The segments after the last END: the incomplete program at the tail (spec 08, R117). -/
def incompleteTail : List Segment → List Segment
  | [] => []
  | g :: gs => if gs.any (·.last) then incompleteTail gs else if g.last then gs else g :: gs

/-- The head program is complete: some segment carries END (spec 08, R117). -/
def headComplete (gs : List Segment) : Bool := gs.any (·.last)

/-- The three conditions of R123, as they stand. -/
def startConditions (s : State) : Bool :=
  s.mode.state == .run && s.demand.propulsion && (s.faults.get .linkV).state != .active

/-- The Program Queue at a computation's start: an IDLE queue with a complete head program becomes
RUNNING when the three conditions hold (R123). -/
def startProgram (s : State) : State :=
  if s.queue.state = .idle && headComplete s.queue.segments && startConditions s then
    s.withQueue { s.queue with state := .running, headCount := 0, startShare := none }
  else s

/-- What a computation reads of the Program Queue (R4): the head segment of a RUNNING program. -/
def readProgram (q : ProgramQueue) : Option ProgramInput :=
  match q.state, q.segments with
  | .running, g :: _ => some ⟨g, q.headCount, q.startShare⟩
  | .running, [] => none
  | .idle, _ => none

/-- Everything a computation reads at its start, as it stands (R4). -/
def readInputs (s : State) : Inputs :=
  { mode := s.mode.state
    demand := s.demand
    axles := s.axles
    reference := s.reference
    driveCells := s.maps.map s.maps.drive
    regenCells := s.maps.map s.maps.regen
    constraints := s.table.map fun e => (e.constraint, e.value)
    program := readProgram s.queue
    faults := s.faults.map (·.state)
    stallAction := ⟨stallActionEnabled s.params .front, stallActionEnabled s.params .rear⟩
    params := s.params
    corr := s.engine.corr
    prev := s.engine.prev
    holdCount := s.engine.holdCount
    heldValue := s.engine.heldValue }

/-- A computation starts: the program start of R18 and R123, then the reading of R4. -/
def startComputation (s : State) : State :=
  let s1 := startProgram s
  s1.withEngine { s1.engine with inFlight := some (readInputs s1) }

/-- The next interval begins with the length PERIOD_US gives now (R1, R2). -/
def beginInterval (s : State) : State :=
  s.withEngine { s.engine with interval := some (s.param Param.periodUs) }

/-! The supervisor's part of a period expiry (R90). -/

/-- A port's deadline after a period expiry that the supervisor takes while armed: a FRESH port counts
down by one, unless its deadline expiry was taken ahead at the same instant; a STALE port does not
count (R90; log entry 8). -/
def countedDeadline (d : Deadline) : Deadline :=
  if d.countedAhead then { d with countedAhead := false }
  else
    match d.freshness with
    | .fresh => { d with remaining := d.remaining - 1 }
    | .stale => d

/-- The countdown of every deadline at a period expiry; none while the supervisor is disarmed (R90). The
deadlines that it brings to 0 are due. -/
def countDeadlines (s : State) : State :=
  let s1 := s.withInstant { s.instant with counted := true }
  if s.supervisor.armed then
    s1.withSupervisor { s.supervisor with deadlines := s.supervisor.deadlines.map countedDeadline }
  else s1

/-- The port's deadline has passed: STALE, no period remaining, and the stale event (R90). -/
def passDeadline (p : Port) (ahead : Bool) (s : State) : State :=
  staleEvent p (setDeadline p ⟨.stale, 0, ahead⟩ s)

/-- The port's deadline was brought to 0, and its expiry is still to be taken: the supervisor is armed,
the port FRESH, and no period remains (R90). -/
def deadlineDue (s : State) (p : Port) : Bool :=
  s.supervisor.armed && (s.supervisor.deadlines.get p).freshness == .fresh &&
    (s.supervisor.deadlines.get p).remaining == 0

/-- Take the deadline expiry of a port if it is due (R90). -/
def settleDeadline (p : Port) (s : State) : State :=
  if deadlineDue s p then passDeadline p false s else s

/-- Take every deadline expiry that is due; their stale events have no order among them (R90). -/
def settleDeadlines (s : State) : State :=
  settleDeadline .ps (settleDeadline .pr (settleDeadline .pf (settleDeadline .pv s)))

/-- The deadline expiry of a port ahead of the countdown of its instant: with one period remaining, that
countdown is this expiry (R90; log entry 8). With more periods remaining it has not come, a port that was
counted at this instant is not counted again, a STALE port sends no further stale event, and nothing
happens while the supervisor is disarmed. -/
def expireDeadline (p : Port) (s : State) : State :=
  let d := s.supervisor.deadlines.get p
  if s.supervisor.armed && d.freshness == .fresh && d.remaining == 1 && !d.countedAhead &&
      !s.instant.counted then
    passDeadline p true s
  else s

/-! The completion of a computation. -/

/-- The flags of a computation at its completion: IDLE is also set when the mode is not RUN (R6). -/
def completionFlags (m : Mode) (f : SplitFlags) : SplitFlags := { f with idle := f.idle || m != .run }

/-- The sent commands: the rate-limited commands in RUN, 0 otherwise (R6). A computation that started in
RUN and completes in RUN sends them also where HALT lay between, where R155 reads every computation in
flight at START as one that sends 0 (DESIGN CHOICE, unsafe: log entry 26). -/
def sentCommands (m : Mode) (c : PerAxle Int) : PerAxle Int := if m = .run then c else ⟨0, 0⟩

/-- A correction as a completion writes it: 0 under the START mark (R9), else at most CORR_MAX as it
stands at the completion (R60). -/
def writtenCorr (s : State) (c : Int) : Int :=
  if s.engine.startMark then 0 else min c (s.param Param.corrMax : Int)

/-- The corrections as a completion writes them (R9, R60). -/
def writtenCorrs (s : State) (r : SplitResult) : PerAxle Int :=
  ⟨writtenCorr s r.corr.front, writtenCorr s r.corr.rear⟩

/-- The Split Record a completion publishes (R8, R11, R12). -/
def completedRecord (s : State) (r : SplitResult) : SplitRecord :=
  { periodNumber := s.engine.periodNumber + 1#16
    dUsed := r.dUsed
    totalCap := r.totalCap
    source := r.source
    sBase := r.sBase
    corr := writtenCorrs s r
    sFinal := r.sFinal
    limit := r.limit
    request := r.request
    sent := sentCommands s.mode.state r.command
    shortfall := r.shortfall
    flags := completionFlags s.mode.state r.flags }

/-- The engine state and the Split Record at a completion (R8, R9, R10, R12). -/
def publish (r : SplitResult) (s : State) : State :=
  let rec' := completedRecord s r
  s.withEngine
    { s.engine with
      inFlight := none
      startMark := false
      periodNumber := rec'.periodNumber
      corr := rec'.corr
      prev := rec'.sent
      holdCount := r.holdCount
      heldValue := r.heldValue
      record := rec' }

/-- The AXLE_CMD frame of an axle from a published record (R14). -/
def axleCommand (m : Mode) (avail : PerAxle Bool) (r : SplitRecord) (a : Axle) : AxleCmd :=
  { torque := r.sent.get a
    periodNumber := r.periodNumber
    mode := m
    available := avail.get a
    flags := r.flags
    limit := r.limit.get a }

/-- Both AXLE_CMD frames are placed in their command slots, replacing a frame not yet begun (R15, R175). -/
def placeCommands (avail : PerAxle Bool) (s : State) : State :=
  s.withCommands
    ⟨some (axleCommand s.mode.state avail s.engine.record .front),
     some (axleCommand s.mode.state avail s.engine.record .rear)⟩

/-- The qualification of an observed fault, as it stands (R137). -/
def qualification (s : State) : FaultId → Nat
  | .stallF => s.param Param.stallWindow
  | .stallR => s.param Param.stallWindow
  | .slipF => s.param Param.slipQual
  | .slipR => s.param Param.slipQual
  | .linkV => 0
  | .linkF => 0
  | .linkR => 0
  | .linkS => 0

/-- A PENDING fault with a count just set or raised: it enters when the count is at least its
qualification (R137). -/
def qualify (f : FaultId) (n : Nat) (s : State) : State :=
  let s1 := setFault f ⟨.pending, n, true⟩ s
  if qualification s f ≤ n then enterFault f s1 else s1

/-- A fault takes one observation (R136, R138). -/
def observe (f : FaultId) (present : Bool) (s : State) : State :=
  let r := s.faults.get f
  match r.state, present with
  | .clear, true => qualify f 1 s
  | .clear, false => setFault f { r with latest := false } s
  | .pending, true => qualify f (r.count + 1) s
  | .pending, false => setFault f ⟨.clear, 0, false⟩ s
  | .active, true => setFault f { r with latest := true } s
  | .active, false => reevaluateLine (setFault f ⟨.clear, 0, false⟩ s)
  | .latched, b => setFault f { r with latest := b } s

/-- The stall observation of an axle: the sent command's magnitude against STALL_TORQUE and the axle
speed read at the start against STALL_SPEED, both parameters as read at the start (R16, R161). -/
def stallPresent (x : Inputs) (sent : PerAxle Int) (a : Axle) : Bool :=
  decide ((x.params.read Param.stallTorque : Int) ≤ mag (sent.get a)) &&
    decide (mag (axleSpeed x a) ≤ (x.params.read Param.stallSpeed : Int))

/-- The CORR_MAX that the slip observation of a completion tests: the one read at the start, or a lower
one written since (R60, R161; DEDUCED, log entry 11). -/
def observedCorrMax (x : Inputs) (s : State) : Nat :=
  min (x.params.read Param.corrMax) (s.param Param.corrMax)

/-- The slip observation of an axle: the correction as written equals CORR_MAX (R17, R60). -/
def slipPresent (x : Inputs) (s : State) (corr : PerAxle Int) (a : Axle) : Bool :=
  corr.get a == (observedCorrMax x s : Int)

/-- The four observations of a completion (R16, R17). -/
def handObservations (x : Inputs) (s : State) : State :=
  let sent := s.engine.record.sent
  let corr := s.engine.record.corr
  let s1 := observe .stallF (stallPresent x sent .front) s
  let s2 := observe .stallR (stallPresent x sent .rear) s1
  let s3 := observe .slipF (slipPresent x s corr .front) s2
  observe .slipR (slipPresent x s corr .rear) s3

/-- The Program Queue takes a segment-advance notice: the share the segment gave and the start share
used (R126). -/
def takeNotice (share s0 : Int) (q : ProgramQueue) : ProgramQueue :=
  match q.state, q.segments with
  | .idle, _ => q
  | .running, [] => q
  | .running, g :: rest =>
    if q.headCount + 1 < g.duration then
      { q with headCount := q.headCount + 1, startShare := some (q.startShare.getD s0) }
    else if g.last then ⟨rest, .idle, 0, none⟩
    else ⟨rest, .running, 0, some share⟩

/-- The notice of a computation whose s_base source is PROGRAM (R18, R126). -/
def handNotice (x : Inputs) (r : SplitResult) (s : State) : State :=
  match x.program with
  | some pr => s.withQueue (takeNotice r.sBase (usedStartShare pr r.sMap) s.queue)
  | none => s

/-- The status cadence, against STATUS_DIV as read at the start (R19, R161). -/
def cadence (x : Inputs) (s : State) : State :=
  if s.engine.periodNumber.toNat % x.params.read Param.statusDiv = 0 then triggerStatusAll s else s

/-- The completion of the computation that read these inputs: publication, AXLE_CMD placement,
observations, notice, cadence (spec 01, section 1.10). -/
def complete (x : Inputs) (s : State) : State :=
  let r := computeSplit x
  cadence x (handNotice x r (handObservations x (placeCommands r.available (publish r s))))

/-- The completion of the computation in flight, if there is one. -/
def completeInFlight (s : State) : State :=
  match s.engine.inFlight with
  | some x => complete x s
  | none => s

end Sys2Proof.Machine
end

