-- ==== Sys2Proof/Machine/Records.lean ====
section
/-! DEFINITION. The records that streaming inputs replace: the Demand Record (spec 06, R86, R87), the Axle
Records (spec 05, R69, R70) and the Reference Record (spec 05, R81). -/
namespace Sys2Proof.Machine

/-- Mark CLAMPED on a port when a clamp changed a value (R70, R81, R86). -/
def markIfClamped (p : Port) (changed : Bool) (s : State) : State :=
  if changed then markClamped p s else s

/-- The Demand Record takes a DEMAND frame; a change of propulsion from ON to OFF aborts the Program
Queue at the same event (R86, R87). -/
def storeDemand (p : Port) (torque : Half) (propulsion : Byte) (s : State) : State :=
  let r := demandRecord torque propulsion
  let s1 := markIfClamped p (demandClamps torque) (s.withDemand r)
  if s.demand.propulsion && !r.propulsion then abortQueue s1 else s1

/-- The Axle Record of the port takes an ENVELOPE frame (R69, R70). -/
def storeEnvelope (p : Port) (driveMax regenMax speed : Half) (ready : Byte) (s : State) : State :=
  match portAxle p with
  | some a =>
    markIfClamped p (envelopeClamps driveMax regenMax speed)
      (s.withAxles (s.axles.set a (envelopeRecord driveMax regenMax speed ready)))
  | none => s

/-- The Reference Record takes a REFERENCE frame (R81). -/
def storeReference (p : Port) (speed : Half) (valid : Byte) (s : State) : State :=
  markIfClamped p (referenceClamps speed) (s.withReference (referenceRecord speed valid))

end Sys2Proof.Machine
end

