-- ==== Sys2Proof/Machine/Instants.lean ====
section
/-! DEFINITION. How every command is taken: what is left of an earlier instant comes first, then the
command's own effect, then the change its instant still owes, then, at the instant's end, the
transmissions (spec 00, "Events and operations that take time"; spec 11, R174, R176; log entries 10, 22
to 24). -/
namespace Sys2Proof.Machine

/-- The timing of the command at the front: whole and at an instant of its own where none is listed. -/
def timingOf (s : State) : Timing := s.instant.timing.headD ⟨false, .whole⟩

/-- The command at the front falls at the instant the block stands at. -/
def joinsInstant (s : State) : Bool := (timingOf s).joins

/-- A change that a command left is taken. While RESET is asserted nothing is left to take (R159). -/
def finish (r : Option Remainder) (s : State) : State :=
  if s.lines.reset then s
  else
    match r with
    | none => s
    | some (.freshEvent p) => refreshPort p s
    | some (.demandRecord torque propulsion) => storeDemand .pv torque propulsion s
    | some (.referenceRecord speed valid) => storeReference .ps speed valid s
    | some .computationStart => startComputation s
    | some .countdown => countDeadlines s

/-- The front command's timing is taken from the list, and what an earlier command left is handed on. -/
def dropTiming (s : State) : State :=
  s.withInstant { s.instant with timing := s.instant.timing.tail, remainder := none }

/-- What a command has left is handed on. -/
def dropRemainder (s : State) : State := s.withInstant { s.instant with remainder := none }

/-- An instant is over: the change it still owes is taken, the deadlines due expire (R90), and only then,
with every entry of the instant marked and every trigger placed, idle transmitters begin (R145, R176); the
deadlines of the next instant are uncounted. -/
def endInstant (r : Option Remainder) (s : State) : State :=
  let s1 := startTransmitters (settleDeadlines (finish r s))
  s1.withInstant { s1.instant with counted := false }

/-- The state a command finds: deadlines due have expired (R90, R95), and, unless the command joins its
instant, the earlier instant is over. -/
def opened (s : State) : State :=
  if joinsInstant s then settleDeadlines (dropTiming s)
  else endInstant s.instant.remainder (dropTiming s)

/-- The change of an earlier command that is taken after this one. -/
def owed (s : State) : Option Remainder := if joinsInstant s then s.instant.remainder else none

/-- The instant ends where the next command does not join it. -/
def endUnlessJoined (s : State) : State :=
  if joinsInstant s then s else endInstant s.instant.remainder (dropRemainder s)

/-- After a command, taken from the state s, has left the state u: the change an earlier command left,
then, where no further command joins, the end of the instant. -/
def closed (s u : State) : State := endUnlessJoined (finish (owed s) u)

/-- A command is taken: its effect, which may depend on the order of its two changes, between what comes
before and what comes after it. -/
def event (f : Order → State → State) (s : State) : Result :=
  .next (closed s (f (timingOf s).order (opened s)))

/-- A command that the block takes only while RESET is released: while RESET is asserted the part holds
every block at its reset value (spec 10, R159). -/
def whileReleased (f : Order → State → State) (s : State) : Result :=
  event (fun o x => if x.lines.reset then x else f o x) s

end Sys2Proof.Machine
end

