-- ==== Sys2Proof/Machine/Engine.lean ====
section
/-! DEFINITION. The timer events: PERIOD_EXPIRY, COMPLETION, LIFETIME_EXPIRY, DEADLINE_EXPIRY (spec 01;
spec 06 R90; spec 07 R105). -/
namespace Sys2Proof.Machine

/-- PERIOD_EXPIRY: the next interval begins, a computation starts, the deadlines count down (R1, R3,
R90). The start and the countdown are two blocks' own events (R90, R95). -/
def takePeriodExpiry (o : Order) (s : State) : State :=
  match o with
  | .whole => countDeadlines (startComputation (beginInterval s))
  | .firstNow => leave .countdown (startComputation (beginInterval s))
  | .secondNow => leave .computationStart (countDeadlines (beginInterval s))

/-- PERIOD_EXPIRY (R1, R3, R4, R90, R123). A computation still in flight has completed before the expiry
(R3): where the queue did not name its completion, it is taken first (log entry 9). -/
def execPeriodExpiry (s : State) : Result :=
  whileReleased (fun o x => takePeriodExpiry o (completeInFlight x)) s

/-- COMPLETION (R6 to R19); without a computation in flight none completes (log entry 6). -/
def execCompletion (s : State) : Result := whileReleased (fun _ => completeInFlight) s

/-- An entry after a period expiry; none when its lifetime reaches 0 (R105). -/
def agedEntry (e : Entry) : Option Entry :=
  if e.lifetime ≤ 1 then none else some { e with lifetime := e.lifetime - 1 }

/-- LIFETIME_EXPIRY (R105). -/
def execLifetimeExpiry (s : State) : Result :=
  whileReleased (fun _ x => x.withTable (x.table.filterMap agedEntry)) s

/-- DEADLINE_EXPIRY of a port (R90): a deadline that is due has expired as the command opens; any other
may expire ahead of its countdown. -/
def execDeadlineExpiry (p : Port) (s : State) : Result := whileReleased (fun _ => expireDeadline p) s

end Sys2Proof.Machine
end

