-- ==== Sys2Proof/Machine/FaultRequests.lean ====
section
/-! DEFINITION. CLEAR_FAULT (spec 09, R146, R147). -/
namespace Sys2Proof.Machine

/-- The condition of a latching fault, as it stands: the port STALE for LINK_F and LINK_R, the latest
observation for STALL_F and STALL_R (R94, R146). The other faults are never LATCHED. -/
def conditionPresent (s : State) : FaultId → Bool
  | .linkV => (s.supervisor.deadlines.get .pv).freshness == .stale
  | .linkF => (s.supervisor.deadlines.get .pf).freshness == .stale
  | .linkR => (s.supervisor.deadlines.get .pr).freshness == .stale
  | .linkS => (s.supervisor.deadlines.get .ps).freshness == .stale
  | .stallF => s.faults.stallF.latest
  | .stallR => s.faults.stallR.latest
  | .slipF => s.faults.slipF.latest
  | .slipR => s.faults.slipR.latest

/-- The fault is LATCHED. -/
def latched (s : State) (f : FaultId) : Bool := (s.faults.get f).state == .latched

/-- A CLEAR_FAULT's work on one fault: a LATCHED fault whose condition is absent becomes CLEAR (R146). -/
def releaseFault (f : FaultId) (s : State) : State :=
  if latched s f && !conditionPresent s f then clearFault f s else s

/-- The answer of a CLEAR_FAULT (R146, R147). -/
def clearFaultAnswer (id : Byte) (s : State) : Answer :=
  if id = 255#8 then
    let s1 := allFaults.foldl (fun t f => releaseFault f t) s
    ⟨s1, if allFaults.any (latched s1) then .conditionPresent else .ok, 0⟩
  else
    match faultOfId id.toNat with
    | none => refuse s .range
    | some f =>
      if latched s f && conditionPresent s f then refuse s .conditionPresent
      else taken (releaseFault f s)

/-- The arrival of a CLEAR_FAULT frame. -/
def takeClearFault (p : Port) (tag id : Byte) : State → State :=
  takeRequest p tag .clearFault (clearFaultAnswer id)

/-- CLEAR_FAULT (R146). -/
def execClearFault (p : Port) (tag id : Byte) (s : State) : Result :=
  event (fun _ => frameArrives (.clearFault p tag id) p (takeClearFault p tag id)) s

end Sys2Proof.Machine
end

