-- ==== Sys2Proof/Machine/Interventions.lean ====
section
/-! DEFINITION. The Intervention Table's requests: INTERVENE (spec 07, R100 to R103) and RELEASE (R108,
R109). The table's entries have no order among them (R98); the model lists them by rising id. -/
namespace Sys2Proof.Machine

/-- An entry with this id is present. -/
def hasEntry (t : List Entry) (id : Nat) : Bool := t.any fun e => e.id == id

/-- Insert an entry at its place by id, replacing the one that has its id (R102, R103). -/
def putEntry (e : Entry) : List Entry → List Entry
  | [] => [e]
  | x :: xs =>
    if e.id < x.id then e :: x :: xs
    else if e.id = x.id then e :: xs
    else x :: putEntry e xs

/-- Remove the entry with an id (R108). -/
def dropEntry (id : Nat) (t : List Entry) : List Entry := t.filter fun e => e.id != id

/-- The entry an INTERVENE stores after the clamping of R101; none when a check of R100 fails. -/
def entryOf (id kind axle : Byte) (value lifetime : Half) : Option Entry :=
  match constraintOfCodes kind axle with
  | none => none
  | some c =>
    if 1 ≤ id.toNat ∧ 1 ≤ lifetime.toNat then
      some ⟨id.toNat, c, capNat c.most value.toNat, capNat Config.lifetimeMax lifetime.toNat⟩
    else none

/-- A clamp of R101 changed the value or the lifetime. -/
def entryClamped (e : Entry) (value lifetime : Half) : Bool :=
  e.value != value.toNat || e.lifetime != lifetime.toNat

/-- The answer of an INTERVENE: RANGE, then replacement, insertion or FULL (R100 to R103). -/
def interveneAnswer (id kind axle : Byte) (value lifetime : Half) (s : State) : Answer :=
  match entryOf id kind axle value lifetime with
  | none => refuse s .range
  | some e =>
    if hasEntry s.table e.id || decide (s.table.length < Config.tableSize) then
      ⟨s.withTable (putEntry e s.table), if entryClamped e value lifetime then .clamped else .ok, 0⟩
    else refuse s .full

/-- The answer of a RELEASE: id 0 removes every entry (R109), another id its entry (R108). -/
def releaseAnswer (id : Byte) (s : State) : Answer :=
  if id = 0#8 then taken (s.withTable [])
  else if hasEntry s.table id.toNat then taken (s.withTable (dropEntry id.toNat s.table))
  else refuse s .notFound

/-- The arrival of an INTERVENE frame. -/
def takeIntervene (p : Port) (tag id kind axle : Byte) (value lifetime : Half) : State → State :=
  takeRequest p tag .intervene (interveneAnswer id kind axle value lifetime)

/-- The arrival of a RELEASE frame. -/
def takeRelease (p : Port) (tag id : Byte) : State → State :=
  takeRequest p tag .release (releaseAnswer id)

/-- INTERVENE (R100). -/
def execIntervene (p : Port) (tag id kind axle : Byte) (value lifetime : Half) (s : State) : Result :=
  event (fun _ => frameArrives (.intervene p tag id kind axle value lifetime) p
    (takeIntervene p tag id kind axle value lifetime)) s

/-- RELEASE (R108). -/
def execRelease (p : Port) (tag id : Byte) (s : State) : Result :=
  event (fun _ => frameArrives (.release p tag id) p (takeRelease p tag id)) s

end Sys2Proof.Machine
end

