-- ==== Sys2Proof/Machine/Maps.lean ====
section
/-! DEFINITION. The Map Store's requests: WRITE_CELLS (spec 03, R45 to R48) and SELECT_MAPS (R49). -/
namespace Sys2Proof.Machine

/-- The cells a WRITE_CELLS addresses, in order: start, start + step, … (R45). -/
def addressedCells (start stride count : Nat) : List Nat :=
  (List.range count).map fun k => start + k * stride

/-- Store a value in one cell of a map. -/
def storeCell (cells : Vector Nat 64) (w : Nat × Nat) : Vector Nat 64 :=
  if h : w.1 < 64 then cells.set w.1 w.2 h else cells

/-- Store each value in its cell (R48). -/
def storeCells (cells : Vector Nat 64) (ws : List (Nat × Nat)) : Vector Nat 64 :=
  ws.foldl storeCell cells

/-- A WRITE_CELLS request in range, decoded: its map and the cells with their values. -/
structure CellWrite where
  map : Fin 4
  writes : List (Nat × Nat)
  deriving DecidableEq, Repr

/-- The range checks of R46: map, step, count, start, last cell, and each of the first count values. -/
def cellWrite (map start step count : Byte) (values : List Half) : Option CellWrite :=
  match strideOfCode step with
  | none => none
  | some stride =>
    if hm : map.toNat < 4 then
      if 1 ≤ count.toNat ∧ count.toNat ≤ 4 ∧ start.toNat ≤ 63 ∧
          start.toNat + (count.toNat - 1) * stride ≤ 63 ∧
          (values.take count.toNat).all (fun v => decide (v.toNat ≤ Config.fullShare)) = true then
        some ⟨⟨map.toNat, hm⟩,
          (addressedCells start.toNat stride count.toNat).zip (values.map (·.toNat))⟩
      else none
    else none

/-- The map is in use: RUN, and selected as drive or regen map (R47). -/
def mapInUse (s : State) (m : Fin 4) : Bool :=
  s.mode.state == .run && (m == s.maps.drive || m == s.maps.regen)

/-- Store the cells of a WRITE_CELLS that is taken (R48). -/
def writeMap (w : CellWrite) (s : State) : State :=
  s.withMaps (s.maps.setMap w.map (storeCells (s.maps.map w.map) w.writes))

/-- The answer of a WRITE_CELLS: RANGE before IN_USE (R46, R47). -/
def writeCellsAnswer (map start step count : Byte) (values : List Half) (s : State) : Answer :=
  match cellWrite map start step count values with
  | none => refuse s .range
  | some w => if mapInUse s w.map then refuse s .inUse else taken (writeMap w s)

/-- The answer of a SELECT_MAPS: refused whole unless both indices are at most 3 (R49). -/
def selectMapsAnswer (drive regen : Byte) (s : State) : Answer :=
  if h : drive.toNat < 4 ∧ regen.toNat < 4 then
    taken (s.withMaps { s.maps with drive := ⟨drive.toNat, h.1⟩, regen := ⟨regen.toNat, h.2⟩ })
  else refuse s .range

/-- The arrival of a WRITE_CELLS frame. -/
def takeWriteCells (p : Port) (tag map start step count : Byte) (v0 v1 v2 v3 : Half) : State → State :=
  takeRequest p tag .writeCells (writeCellsAnswer map start step count [v0, v1, v2, v3])

/-- The arrival of a SELECT_MAPS frame. -/
def takeSelectMaps (p : Port) (tag drive regen : Byte) : State → State :=
  takeRequest p tag .selectMaps (selectMapsAnswer drive regen)

/-- WRITE_CELLS (R46). -/
def execWriteCells (p : Port) (tag map start step count : Byte) (v0 v1 v2 v3 : Half)
    (s : State) : Result :=
  event (fun _ => frameArrives (.writeCells p tag map start step count v0 v1 v2 v3) p
    (takeWriteCells p tag map start step count v0 v1 v2 v3)) s

/-- SELECT_MAPS (R49). -/
def execSelectMaps (p : Port) (tag drive regen : Byte) (s : State) : Result :=
  event (fun _ => frameArrives (.selectMaps p tag drive regen) p (takeSelectMaps p tag drive regen)) s

end Sys2Proof.Machine
end

