-- ==== Sys2Proof/Machine/ModeControl.lean ====
section
/-! DEFINITION. The Mode Controller: START (spec 10, R153 to R155), STOP (R156), CONFIGURE (R157), the
SHUTOFF line (R158) and the RESET line (R159; spec 01 R1, R7; spec 11 R180). -/
namespace Sys2Proof.Machine

/-- Each value is below the next. -/
def strictlyAscending : List Nat → Bool
  | [] => true
  | [_] => true
  | a :: b :: rest => decide (a < b) && strictlyAscending (b :: rest)

/-- The consistency check of START (R154). -/
def consistent (ps : Params) : Bool :=
  strictlyAscending ((List.finRange 8).map fun i => ps.read (Param.speedBp i)) &&
    strictlyAscending ((List.finRange 8).map fun i => ps.read (Param.demandBp i)) &&
    decide (ps.read Param.stallCap < ps.read Param.stallTorque)

/-- Set the device state. -/
def setMode (m : Mode) (s : State) : State := s.withMode { s.mode with state := m }

/-- START sets both corrections to 0, and sets the START mark while a computation is in flight (R9). P_f
and P_r are kept (R155), also where STOP and START are taken with no completion between, so that the first
computation in RUN is rate-limited from the command sent before the STOP, where R39 reads P_a as 0 after
START (DESIGN CHOICE, unsafe: log entry 25). -/
def resetCorrections (s : State) : State :=
  s.withEngine
    { s.engine with
      corr := ⟨0, 0⟩
      startMark := s.engine.startMark || s.engine.inFlight.isSome }

/-- The effects of a START that is taken (R155). -/
def enterRun (s : State) : State :=
  triggerStatusAll (armSupervisor (resetCorrections (s.withMode ⟨.run, true⟩)))

/-- The answer of a START: the checks of R153 in their order. -/
def startAnswer (s : State) : Answer :=
  if s.mode.state = .run then refuse s .state
  else if s.lines.shutoff then refuse s .state
  else if consistent s.params then taken (enterRun s)
  else refuse s .configInvalid

/-- The change from RUN to HALT, by STOP or by SHUTOFF: abort and status trigger (R156, R158). -/
def enterHalt (s : State) : State := triggerStatusAll (abortQueue (setMode .halt s))

/-- The answer of a STOP (R156). -/
def stopAnswer (s : State) : Answer :=
  match s.mode.state with
  | .run => taken (enterHalt s)
  | .halt => taken s
  | .config => refuse s .state

/-- LINK_V and LINK_S return to CLEAR at the entry into CONFIG (R141). -/
def clearLinkFaults (s : State) : State := clearFault .linkS (clearFault .linkV s)

/-- The change from HALT to CONFIG: abort, table emptied, supervisor disarmed, LINK_V and LINK_S CLEAR,
status trigger (R157). -/
def enterConfig (s : State) : State :=
  triggerStatusAll
    (clearLinkFaults
      (((abortQueue (setMode .config s)).withTable []).withSupervisor Supervisor.disarmed))

/-- The answer of a CONFIGURE (R157). -/
def configureAnswer (s : State) : Answer :=
  match s.mode.state with
  | .halt => taken (enterConfig s)
  | .config => taken s
  | .run => refuse s .state

/-- The arrival of a START, STOP or CONFIGURE frame. -/
def takeStart (p : Port) (tag : Byte) : State → State := takeRequest p tag .start startAnswer
def takeStop (p : Port) (tag : Byte) : State → State := takeRequest p tag .stop stopAnswer
def takeConfigure (p : Port) (tag : Byte) : State → State := takeRequest p tag .configure configureAnswer

/-- START (R153). -/
def execStart (p : Port) (tag : Byte) (s : State) : Result :=
  event (fun _ => frameArrives (.start p tag) p (takeStart p tag)) s

/-- STOP (R156). -/
def execStop (p : Port) (tag : Byte) (s : State) : Result :=
  event (fun _ => frameArrives (.stop p tag) p (takeStop p tag)) s

/-- CONFIGURE (R157). -/
def execConfigure (p : Port) (tag : Byte) (s : State) : Result :=
  event (fun _ => frameArrives (.configure p tag) p (takeConfigure p tag)) s

/-- Set the level of the SHUTOFF line. -/
def setShutoff (b : Bool) (s : State) : State := s.withLines { s.lines with shutoff := b }

/-- SHUTOFF_ASSERT: the line is asserted; in RUN the part goes to HALT (R158). The level of an input
line is its own also while RESET is asserted (log entry 5). -/
def execShutoffAssert (s : State) : Result :=
  event (fun _ x =>
    if !x.lines.reset && x.mode.state == .run then enterHalt (setShutoff true x)
    else setShutoff true x) s

/-- SHUTOFF_RELEASE: the line is released, and no other state changes (R158). -/
def execShutoffRelease (s : State) : Result := event (fun _ => setShutoff false) s

/-- The block while RESET is asserted: every block at its reset value, the computation abandoned, every
slot and sticky set empty, the timer stopped (R159, R1, R7, R180). The SHUTOFF input's level and the
waiting commands with their timings are not the block's to reset (log entries 2, 5, 22). -/
def resetAsserted (shutoff : Bool) (timing : List Timing) (pending : List Instr) : State :=
  { State.reset with
    lines := ⟨true, shutoff, false⟩
    engine := { Engine.reset with interval := none }
    instant := ⟨timing, none, false⟩
    pending := pending }

/-- RESET_ASSERT (R159). -/
def execResetAssert (s : State) : Result :=
  event (fun _ x => resetAsserted x.lines.shutoff x.instant.timing x.pending) s

/-- RESET_RELEASE: the part begins in CONFIG, the first interval begins with the reset default of
PERIOD_US, the receivers are in HUNT (R1, R159, R180). While RESET is not asserted there is no release
(log entry 6). -/
def execResetRelease (s : State) : Result :=
  event (fun _ x =>
    if x.lines.reset then
      (x.withLines { x.lines with reset := false }).withEngine
        { x.engine with interval := some (paramDefaults.read Param.periodUs) }
    else x) s

end Sys2Proof.Machine
end

