-- ==== Sys2Proof/Machine/ParamStore.lean ====
section
/-! DEFINITION. The Parameter Store's requests: SET_PARAM (spec 10, R162, R163) and READ_PARAM (R164). -/
namespace Sys2Proof.Machine

/-- A correction above a newly written CORR_MAX is lowered to it at the write (spec 04, R60). -/
def lowerCorrections (most : Nat) (s : State) : State :=
  s.withEngine
    { s.engine with
      corr := ⟨min s.engine.corr.front (most : Int), min s.engine.corr.rear (most : Int)⟩ }

/-- A write of a parameter that is taken, with the effects R163 gives at the write. -/
def writeParam (i : Fin 40) (v : Nat) (s : State) : State :=
  let s1 := s.withParams (s.params.write i v)
  if i = Param.corrMax then lowerCorrections v s1
  else if i = Param.lineMask then reevaluateLine s1
  else s1

/-- The checks of a SET_PARAM in their order: state, id, lock, range (R162). -/
def setParamAnswer (id : Byte) (value : Half) (s : State) : Answer :=
  if s.mode.state = .config then
    match paramOfId id with
    | none => refuse s .range
    | some i =>
      if Param.isWindow i.val && s.mode.windowLock then refuse s .locked
      else if paramAdmits i.val value.toNat then taken (writeParam i value.toNat s)
      else refuse s .range
  else refuse s .state

/-- The answer of a READ_PARAM (R164). -/
def readParamAnswer (id : Byte) (s : State) : Answer :=
  match paramOfId id with
  | none => refuse s .range
  | some i => ⟨s, .ok, s.param i⟩

/-- The arrival of a SET_PARAM frame. -/
def takeSetParam (p : Port) (tag id : Byte) (value : Half) : State → State :=
  takeRequest p tag .setParam (setParamAnswer id value)

/-- The arrival of a READ_PARAM frame. -/
def takeReadParam (p : Port) (tag id : Byte) : State → State :=
  takeRequest p tag .readParam (readParamAnswer id)

/-- SET_PARAM (R162). -/
def execSetParam (p : Port) (tag id : Byte) (value : Half) (s : State) : Result :=
  event (fun _ => frameArrives (.setParam p tag id value) p (takeSetParam p tag id value)) s

/-- READ_PARAM (R164). -/
def execReadParam (p : Port) (tag id : Byte) (s : State) : Result :=
  event (fun _ => frameArrives (.readParam p tag id) p (takeReadParam p tag id)) s

end Sys2Proof.Machine
end

