-- ==== Sys2Proof/Machine/Programs.lean ====
section
/-! DEFINITION. The Program Queue's requests: QUEUE_SEGMENT (spec 08, R118 to R122) and ABORT_PROGRAM
(R128). -/
namespace Sys2Proof.Machine

/-- The range checks of R119: the segment a QUEUE_SEGMENT carries, none when one fails. -/
def segmentOf (id shape endMark : Byte) (target duration : Half) : Option Segment :=
  match shapeOfCode shape with
  | none => none
  | some sh =>
    if 1 ≤ id.toNat ∧ target.toNat ≤ Config.fullShare ∧ 1 ≤ duration.toNat ∧
        duration.toNat ≤ Config.durationMax then
      some ⟨id.toNat, target.toNat, duration.toNat, sh, byteSet endMark⟩
    else none

/-- The segment's id differs from the incomplete program's (R120). -/
def mismatches (gs : List Segment) (g : Segment) : Bool :=
  match incompleteTail gs with
  | [] => false
  | h :: _ => h.program != g.program

/-- The queue without its incomplete program (R121). -/
def withoutIncomplete (gs : List Segment) : List Segment :=
  gs.take (gs.length - (incompleteTail gs).length)

/-- The answer of a QUEUE_SEGMENT: RANGE, MISMATCH, FULL, TOO_LONG in that order, else the segment is
appended (R118 to R122). TOO_LONG removes the incomplete program; the head count and start share are
reset when the head leaves with it (R116, R121). -/
def queueSegmentAnswer (id shape endMark : Byte) (target duration : Half) (s : State) : Answer :=
  match segmentOf id shape endMark target duration with
  | none => refuse s .range
  | some g =>
    let gs := s.queue.segments
    if mismatches gs g then refuse s .mismatch
    else if Config.queueSize ≤ gs.length then refuse s .full
    else if Config.programSize ≤ (incompleteTail gs).length then
      let kept := withoutIncomplete gs
      ⟨s.withQueue (if kept = [] then ProgramQueue.empty else { s.queue with segments := kept }),
        .tooLong, 0⟩
    else taken (s.withQueue { s.queue with segments := gs ++ [g] })

/-- The answer of an ABORT_PROGRAM (R128). -/
def abortProgramAnswer (s : State) : Answer := taken (abortQueue s)

/-- The arrival of a QUEUE_SEGMENT frame. -/
def takeQueueSegment (p : Port) (tag id shape endMark : Byte) (target duration : Half) :
    State → State :=
  takeRequest p tag .queueSegment (queueSegmentAnswer id shape endMark target duration)

/-- The arrival of an ABORT_PROGRAM frame. -/
def takeAbortProgram (p : Port) (tag : Byte) : State → State :=
  takeRequest p tag .abortProgram abortProgramAnswer

/-- QUEUE_SEGMENT (R118). -/
def execQueueSegment (p : Port) (tag id shape endMark : Byte) (target duration : Half)
    (s : State) : Result :=
  event (fun _ => frameArrives (.queueSegment p tag id shape endMark target duration) p
    (takeQueueSegment p tag id shape endMark target duration)) s

/-- ABORT_PROGRAM (R128). -/
def execAbortProgram (p : Port) (tag : Byte) (s : State) : Result :=
  event (fun _ => frameArrives (.abortProgram p tag) p (takeAbortProgram p tag)) s

end Sys2Proof.Machine
end

