-- ==== Sys2Proof/Machine/Streaming.lean ====
section
/-! DEFINITION. The streaming inputs: DEMAND (spec 06, R86 to R88), ENVELOPE (spec 05, R69, R70) and
REFERENCE (spec 05, R81, R83). -/
namespace Sys2Proof.Machine

/-- The arrival of a DEMAND frame (R86, R88, R171). -/
def takeDemand (p : Port) (tag : Byte) (torque : Half) (propulsion : Byte) (o : Order) :
    State → State :=
  takeRecord p tag .demand o (.demandRecord torque propulsion) (storeDemand p torque propulsion)

/-- The arrival of an ENVELOPE frame (R69, R71, R171). -/
def takeEnvelope (p : Port) (tag : Byte) (driveMax regenMax speed : Half) (ready : Byte) :
    State → State :=
  takeStreaming p tag .envelope (storeEnvelope p driveMax regenMax speed ready)

/-- The arrival of a REFERENCE frame (R81, R83, R171). -/
def takeReference (p : Port) (tag : Byte) (speed : Half) (valid : Byte) (o : Order) : State → State :=
  takeRecord p tag .reference o (.referenceRecord speed valid) (storeReference p speed valid)

/-- DEMAND (R86). -/
def execDemand (p : Port) (tag : Byte) (torque : Half) (propulsion : Byte) (s : State) : Result :=
  event (fun o => frameArrives (.demand p tag torque propulsion) p
    (takeDemand p tag torque propulsion o)) s

/-- ENVELOPE (R69). -/
def execEnvelope (p : Port) (tag : Byte) (driveMax regenMax speed : Half) (ready : Byte)
    (s : State) : Result :=
  event (fun _ => frameArrives (.envelope p tag driveMax regenMax speed ready) p
    (takeEnvelope p tag driveMax regenMax speed ready)) s

/-- REFERENCE (R81). -/
def execReference (p : Port) (tag : Byte) (speed : Half) (valid : Byte) (s : State) : Result :=
  event (fun o => frameArrives (.reference p tag speed valid) p
    (takeReference p tag speed valid o)) s

end Sys2Proof.Machine
end

