-- ==== Sys2Proof/WellFormed.lean ====
section
/-! DEFINITION. Which terms of Instr name a command. Every field of a frame may take every value its
width admits ("Enumerated codes outside their lists reach the owning block, which refuses them",
R181), so one check remains: UNKNOWN_KIND names a kind byte that is none of the sixteen (R169). -/
namespace Sys2Proof

/-- The term names a command of the part. -/
def Instr.wellFormed : Instr → Bool
  | .unknownKind _ _ kind => !(receivedKinds.contains kind)
  | .periodExpiry => true
  | .completion => true
  | .lifetimeExpiry => true
  | .deadlineExpiry _ => true
  | .demand _ _ _ _ => true
  | .envelope _ _ _ _ _ _ => true
  | .reference _ _ _ _ => true
  | .setParam _ _ _ _ => true
  | .readParam _ _ _ => true
  | .writeCells _ _ _ _ _ _ _ _ _ _ => true
  | .selectMaps _ _ _ _ => true
  | .start _ _ => true
  | .stop _ _ => true
  | .configure _ _ => true
  | .clearFault _ _ _ => true
  | .queueSegment _ _ _ _ _ _ _ => true
  | .abortProgram _ _ => true
  | .intervene _ _ _ _ _ _ _ => true
  | .release _ _ _ => true
  | .poll _ _ => true
  | .receiveIdle _ => true
  | .frameGap _ => true
  | .framingError _ => true
  | .byteInHunt _ => true
  | .crcError _ => true
  | .transmitCompletion _ => true
  | .shutoffAssert => true
  | .shutoffRelease => true
  | .resetAssert => true
  | .resetRelease => true
  | .byteArrival _ _ => true

end Sys2Proof
end

