-- ==== Sys2Proof/Machine/LinkPorts.lean ====
section
/-! DEFINITION. The Link Ports' own events (spec 11): POLL (R179), UNKNOWN_KIND (R169), the receiver's
events (R165 to R167), the transmit completion (R176), and a frame taken from its twenty bytes. -/
namespace Sys2Proof.Machine

/-- The arrival of a POLL frame: a status frame on its own port, no REPLY (R179). -/
def takePoll (p : Port) (tag : Byte) : State → State := takeStreaming p tag .poll (triggerStatus p)

/-- POLL (R179). -/
def execPoll (p : Port) (tag : Byte) (s : State) : Result :=
  event (fun _ => frameArrives (.poll p tag) p (takePoll p tag)) s

/-- UNKNOWN_KIND (R169). A received kind code names no such event (log entry 6). -/
def execUnknownKind (p : Port) (tag kind : Byte) (s : State) : Result :=
  event (fun _ x =>
    if (Instr.unknownKind p tag kind).wellFormed then
      frameArrives (.unknownKind p tag kind) p (takeUnknown p tag kind) x
    else x) s

/-- The held bytes are discarded, LINK_ERROR is marked and the receiver enters HUNT (R166, R167). -/
def breakFrame (p : Port) (s : State) : State := markLinkError p (setReceiver p .hunt s)

/-- The taking of a good or bad frame from the command its bytes spell (R165, R167, R171). -/
def takeFrame (c : Instr) (o : Order) (s : State) : State :=
  match c with
  | .demand p tag torque propulsion => takeDemand p tag torque propulsion o s
  | .envelope p tag d r v ready => takeEnvelope p tag d r v ready s
  | .reference p tag v valid => takeReference p tag v valid o s
  | .setParam p tag id v => takeSetParam p tag id v s
  | .readParam p tag id => takeReadParam p tag id s
  | .writeCells p tag m st sp n v0 v1 v2 v3 => takeWriteCells p tag m st sp n v0 v1 v2 v3 s
  | .selectMaps p tag d r => takeSelectMaps p tag d r s
  | .start p tag => takeStart p tag s
  | .stop p tag => takeStop p tag s
  | .configure p tag => takeConfigure p tag s
  | .clearFault p tag id => takeClearFault p tag id s
  | .queueSegment p tag id sh e t d => takeQueueSegment p tag id sh e t d s
  | .abortProgram p tag => takeAbortProgram p tag s
  | .intervene p tag id k a v l => takeIntervene p tag id k a v l s
  | .release p tag id => takeRelease p tag id s
  | .poll p tag => takePoll p tag s
  | .unknownKind p tag k => takeUnknown p tag k s
  | .crcError p => markLinkError p s
  | .periodExpiry => s
  | .completion => s
  | .lifetimeExpiry => s
  | .deadlineExpiry _ => s
  | .receiveIdle _ => s
  | .frameGap _ => s
  | .framingError _ => s
  | .byteInHunt _ => s
  | .transmitCompletion _ => s
  | .shutoffAssert => s
  | .shutoffRelease => s
  | .resetAssert => s
  | .resetRelease => s
  | .byteArrival _ _ => s

/-- The frame is complete: the receiver hands the twenty bytes over and returns to HUNT (R165). -/
def frameComplete (p : Port) (frame : List Byte) (o : Order) (s : State) : State :=
  takeFrame (decodeFrame p frame) o (setReceiver p .hunt s)

/-- A byte with a good stop bit arrives (R165). In HUNT it is discarded and marks LINK_ERROR (R166); in
READY it is byte 0; in RECEIVING it joins the bytes held, and as the twentieth completes the frame. -/
def receiveByte (p : Port) (b : Byte) (o : Order) (s : State) : State :=
  match (s.port p).receiver with
  | .hunt => markLinkError p s
  | .ready => setReceiver p (.receiving [b]) s
  | .receiving held =>
    if held.length + 1 < Config.frameBytes then setReceiver p (.receiving (held ++ [b])) s
    else frameComplete p (held ++ [b]) o s

/-- RECEIVE_IDLE (R165): HUNT becomes READY; elsewhere there is no such idle time to reach. -/
def execReceiveIdle (p : Port) (s : State) : Result :=
  whileReleased
    (fun _ x => if (x.port p).receiver = .hunt then setReceiver p .ready x else x) s

/-- FRAME_GAP (R166): only a frame in reception can be broken by a gap. -/
def execFrameGap (p : Port) (s : State) : Result :=
  whileReleased
    (fun _ x =>
      match (x.port p).receiver with
      | .receiving _ => breakFrame p x
      | .hunt => x
      | .ready => x) s

/-- FRAMING_ERROR (R166): in READY or RECEIVING the frame is broken; a byte in HUNT, whatever its stop
bit, is discarded and marks LINK_ERROR. -/
def execFramingError (p : Port) (s : State) : Result := whileReleased (fun _ => breakFrame p) s

/-- BYTE_IN_HUNT (R166): the byte is discarded and marks LINK_ERROR; the receiver stays in HUNT. In
READY or RECEIVING there is no byte in HUNT (log entry 6). -/
def execByteInHunt (p : Port) (s : State) : Result :=
  whileReleased (fun _ x => if (x.port p).receiver = .hunt then markLinkError p x else x) s

/-- CRC_ERROR (R167): the frame is discarded like a broken frame. -/
def execCrcError (p : Port) (s : State) : Result := whileReleased (fun _ => breakFrame p) s

/-- BYTE_ARRIVAL (R165). -/
def execByteArrival (p : Port) (b : Byte) (s : State) : Result := whileReleased (receiveByte p b) s

/-- The frame on the line ends: the transmitter is idle, and a REPLY's slot becomes empty (R173, R176). -/
def endTransmission (p : Port) (s : State) : State :=
  let l := s.port p
  match l.sending with
  | none => s
  | some t =>
    s.withPort p
      { l with
        sending := none
        reply := if t.slot = .reply then none else l.reply }

/-- TRANSMIT_COMPLETION (R176): the frame ends, and the transmitter chooses again at that same event. With
no frame on the line none ends (log entry 6). -/
def execTransmitCompletion (p : Port) (s : State) : Result :=
  whileReleased
    (fun _ x => if (x.port p).sending.isSome then startTransmitter p (endTransmission p x) else x) s

end Sys2Proof.Machine
end

