-- ==== Sys2Proof/Machine/Dispatch.lean ====
section
/-! DEFINITION. Which meaning each command has: one arm per constructor of Instr. -/
namespace Sys2Proof.Machine

def exec (i : Instr) (s : State) : Host.Outcome State Fault Refusal :=
  match i with
  | .periodExpiry => Sys2Proof.Machine.execPeriodExpiry s
  | .completion => Sys2Proof.Machine.execCompletion s
  | .lifetimeExpiry => Sys2Proof.Machine.execLifetimeExpiry s
  | .deadlineExpiry p => Sys2Proof.Machine.execDeadlineExpiry p s
  | .demand p tag torque propulsion => Sys2Proof.Machine.execDemand p tag torque propulsion s
  | .envelope p tag driveMax regenMax speed ready => Sys2Proof.Machine.execEnvelope p tag driveMax regenMax speed ready s
  | .reference p tag speed valid => Sys2Proof.Machine.execReference p tag speed valid s
  | .setParam p tag id value => Sys2Proof.Machine.execSetParam p tag id value s
  | .readParam p tag id => Sys2Proof.Machine.execReadParam p tag id s
  | .writeCells p tag map first stride count v0 v1 v2 v3 => Sys2Proof.Machine.execWriteCells p tag map first stride count v0 v1 v2 v3 s
  | .selectMaps p tag drive regen => Sys2Proof.Machine.execSelectMaps p tag drive regen s
  | .start p tag => Sys2Proof.Machine.execStart p tag s
  | .stop p tag => Sys2Proof.Machine.execStop p tag s
  | .configure p tag => Sys2Proof.Machine.execConfigure p tag s
  | .clearFault p tag id => Sys2Proof.Machine.execClearFault p tag id s
  | .queueSegment p tag id shape endMark target duration => Sys2Proof.Machine.execQueueSegment p tag id shape endMark target duration s
  | .abortProgram p tag => Sys2Proof.Machine.execAbortProgram p tag s
  | .intervene p tag id kind axle value lifetime => Sys2Proof.Machine.execIntervene p tag id kind axle value lifetime s
  | .release p tag id => Sys2Proof.Machine.execRelease p tag id s
  | .poll p tag => Sys2Proof.Machine.execPoll p tag s
  | .unknownKind p tag kind => Sys2Proof.Machine.execUnknownKind p tag kind s
  | .receiveIdle p => Sys2Proof.Machine.execReceiveIdle p s
  | .frameGap p => Sys2Proof.Machine.execFrameGap p s
  | .framingError p => Sys2Proof.Machine.execFramingError p s
  | .byteInHunt p => Sys2Proof.Machine.execByteInHunt p s
  | .crcError p => Sys2Proof.Machine.execCrcError p s
  | .transmitCompletion p => Sys2Proof.Machine.execTransmitCompletion p s
  | .shutoffAssert => Sys2Proof.Machine.execShutoffAssert s
  | .shutoffRelease => Sys2Proof.Machine.execShutoffRelease s
  | .resetAssert => Sys2Proof.Machine.execResetAssert s
  | .resetRelease => Sys2Proof.Machine.execResetRelease s
  | .byteArrival p b => Sys2Proof.Machine.execByteArrival p b s

end Sys2Proof.Machine
end

