-- ==== Sys2Proof/Machine/Step.lean ====
section
/-! DEFINITION. One step: the command at the front of the queue, taken whole. -/
namespace Sys2Proof.Machine

/-- A step takes the command at the front of the queue, runs exec on it with the queue's rest, and
answers its outcome; on an empty queue the block idles (log entry 2). -/
def step (s : State) : Host.Outcome State Fault Refusal :=
  match s.pending with
  | [] => .next s
  | c :: rest => exec c (s.withPending rest)

/-- The command that a table word spells, put at the front of the queue, whole and at an instant of its own;
nothing where it spells none. -/
def State.withFetchWord (s : State) (nbits w : Nat) : State :=
  match decodeTableWord nbits w with
  | none => s
  | some c =>
    (s.withPending (c :: s.pending)).withInstant
      { s.instant with timing := ⟨false, .whole⟩ :: s.instant.timing }

end Sys2Proof.Machine
end

