-- ==== Sys2Proof/Safety.lean ====
section
/-! DEFINITION. What counts as a sound state of the WT-2240, in the terms the statements use: the
invariants the manual's rules promise, and the vocabulary of the statements about frames. -/
namespace Sys2Proof.Machine

/-! Frames and ports. -/

/-- The last byte of this frame command can arrive on the port: RESET is released, and the receiver
either holds the frame's nineteen bytes or is free to have received them (R165, R180; log entry 7). -/
def canArrive (s : State) (p : Port) (c : Instr) : Bool :=
  !s.lines.reset &&
    match (s.port p).receiver with
    | .hunt => true
    | .ready => true
    | .receiving held => completes p held c

/-- The port, the kind and the tag of a frame command of one of the sixteen kinds. -/
def frameOf : Instr → Option (Port × Kind × Byte)
  | .demand p tag _ _ => some (p, .demand, tag)
  | .envelope p tag _ _ _ _ => some (p, .envelope, tag)
  | .reference p tag _ _ => some (p, .reference, tag)
  | .setParam p tag _ _ => some (p, .setParam, tag)
  | .readParam p tag _ => some (p, .readParam, tag)
  | .writeCells p tag _ _ _ _ _ _ _ _ => some (p, .writeCells, tag)
  | .selectMaps p tag _ _ => some (p, .selectMaps, tag)
  | .start p tag => some (p, .start, tag)
  | .stop p tag => some (p, .stop, tag)
  | .configure p tag => some (p, .configure, tag)
  | .clearFault p tag _ => some (p, .clearFault, tag)
  | .queueSegment p tag _ _ _ _ _ => some (p, .queueSegment, tag)
  | .abortProgram p tag => some (p, .abortProgram, tag)
  | .intervene p tag _ _ _ _ _ => some (p, .intervene, tag)
  | .release p tag _ => some (p, .release, tag)
  | .poll p tag => some (p, .poll, tag)
  | .unknownKind _ _ _ => none
  | .periodExpiry => none
  | .completion => none
  | .lifetimeExpiry => none
  | .deadlineExpiry _ => none
  | .receiveIdle _ => none
  | .frameGap _ => none
  | .framingError _ => none
  | .byteInHunt _ => none
  | .crcError _ => none
  | .transmitCompletion _ => none
  | .shutoffAssert => none
  | .shutoffRelease => none
  | .resetAssert => none
  | .resetRelease => none
  | .byteArrival _ _ => none

/-- The kinds of frame that produce no REPLY where they are permitted (R171, step 3). -/
def Kind.silent : Kind → Bool
  | .demand => true
  | .envelope => true
  | .reference => true
  | .poll => true
  | .setParam => false
  | .readParam => false
  | .writeCells => false
  | .selectMaps => false
  | .start => false
  | .stop => false
  | .configure => false
  | .clearFault => false
  | .queueSegment => false
  | .abortProgram => false
  | .intervene => false
  | .release => false

/-- The positions of the payload bytes that R181 lists for a frame command. -/
def listedBytes : Instr → List Nat
  | .demand _ _ _ _ => [2, 3, 4]
  | .envelope _ _ _ _ _ _ => [2, 3, 4, 5, 6, 7, 8]
  | .reference _ _ _ _ => [2, 3, 4]
  | .setParam _ _ _ _ => [2, 4, 5]
  | .readParam _ _ _ => [2]
  | .writeCells _ _ _ _ _ _ _ _ _ _ => [2, 3, 4, 5, 6, 7, 8, 9, 10, 11, 12, 13]
  | .selectMaps _ _ _ _ => [2, 3]
  | .clearFault _ _ _ => [2]
  | .queueSegment _ _ _ _ _ _ _ => [2, 3, 4, 6, 7, 8, 9]
  | .intervene _ _ _ _ _ _ _ => [2, 3, 4, 6, 7, 8, 9]
  | .release _ _ _ => [2]
  | .start _ _ => []
  | .stop _ _ => []
  | .configure _ _ => []
  | .abortProgram _ _ => []
  | .poll _ _ => []
  | .unknownKind _ _ _ => []
  | .periodExpiry => []
  | .completion => []
  | .lifetimeExpiry => []
  | .deadlineExpiry _ => []
  | .receiveIdle _ => []
  | .frameGap _ => []
  | .framingError _ => []
  | .byteInHunt _ => []
  | .crcError _ => []
  | .transmitCompletion _ => []
  | .shutoffAssert => []
  | .shutoffRelease => []
  | .resetAssert => []
  | .resetRelease => []
  | .byteArrival _ _ => []

/-- The port an event or a frame happens on; none for the events that concern no one port. -/
def portOf : Instr → Option Port
  | .deadlineExpiry p => some p
  | .receiveIdle p => some p
  | .frameGap p => some p
  | .framingError p => some p
  | .byteInHunt p => some p
  | .crcError p => some p
  | .transmitCompletion p => some p
  | .byteArrival p _ => some p
  | .unknownKind p _ _ => some p
  | .demand p _ _ _ => some p
  | .envelope p _ _ _ _ _ => some p
  | .reference p _ _ _ => some p
  | .setParam p _ _ _ => some p
  | .readParam p _ _ => some p
  | .writeCells p _ _ _ _ _ _ _ _ _ => some p
  | .selectMaps p _ _ _ => some p
  | .start p _ => some p
  | .stop p _ => some p
  | .configure p _ => some p
  | .clearFault p _ _ => some p
  | .queueSegment p _ _ _ _ _ _ => some p
  | .abortProgram p _ => some p
  | .intervene p _ _ _ _ _ _ => some p
  | .release p _ _ => some p
  | .poll p _ => some p
  | .periodExpiry => none
  | .completion => none
  | .lifetimeExpiry => none
  | .shutoffAssert => none
  | .shutoffRelease => none
  | .resetAssert => none
  | .resetRelease => none

/-- A frame's last byte has arrived on the port: its receiver is in HUNT. -/
def heard (p : Port) (s : State) : State := s.withPort p { s.port p with receiver := .hunt }

/-- A frame that leaves a REPLY has arrived on the port: the receiver in HUNT, the REPLY in the port's
reply slot (R165, R172). -/
def replied (p : Port) (tag kind : Byte) (code : ReplyCode) (value : Nat) (s : State) : State :=
  s.withPort p { s.port p with receiver := .hunt, reply := some ⟨tag, kind, code, value⟩ }

/-- A frame whose REPLY can be placed: it can arrive on the port, and the reply slot is empty (R171,
step 4). -/
def Answerable (s : State) (p : Port) (c : Instr) : Prop :=
  canArrive s p c = true ∧ (s.port p).reply = none

/-- A status trigger on all four ports (R174). -/
def triggered (x : PerPort LinkPort) : PerPort LinkPort := x.map fun l => { l with statusWaiting := true }

/-- The entry of a fault marks its id on all four ports and triggers status there (R145). -/
def entered (f : FaultId) (x : PerPort LinkPort) : PerPort LinkPort :=
  x.map fun l =>
    { l with statusWaiting := true, sticky := { l.sticky with faults := l.sticky.faults.set f true } }

/-- No idle transmitter leaves a frame waiting (R176). -/
def Quiet (s : State) : Prop :=
  ∀ q, (s.port q).sending = none →
    waitingCommand s q = none ∧ (s.port q).reply = none ∧ (s.port q).statusWaiting = false

/-- Nothing is left of an earlier instant, no deadline expiry is due and no idle transmitter has a frame
waiting: a command at an instant of its own finds the block as it stands (log entries 22 to 24). -/
def Settled (s : State) : Prop :=
  s.instant.remainder = none ∧ s.instant.counted = false ∧ (∀ p, deadlineDue s p = false) ∧ Quiet s

/-- Neither the command at the front nor the one after it falls at the instant of the command before it. -/
def Alone (s : State) : Prop := ∀ x ∈ s.instant.timing.take 2, x.joins = false

/-- The condition of a fault: a link fault's port is STALE; another fault's latest observation is present
(R94, R134, R146). -/
def FaultCondition (s : State) (f : FaultId) : Prop :=
  (∃ p, linkFault p = f ∧ (s.supervisor.deadlines.get p).freshness = .stale) ∨
    ((∀ p, linkFault p ≠ f) ∧ (s.faults.get f).latest = true)

/-- A fault record after one observation, by the table of R138, given its class and qualification
(R136 to R138). -/
def observedRecord (inForce : FaultState) (qualification : Nat) (present : Bool) (r : FaultRecord) :
    FaultRecord :=
  match r.state, present with
  | .clear, false => ⟨.clear, r.count, false⟩
  | .clear, true => ⟨if qualification ≤ 1 then inForce else .pending, 1, true⟩
  | .pending, false => ⟨.clear, 0, false⟩
  | .pending, true => ⟨if qualification ≤ r.count + 1 then inForce else .pending, r.count + 1, true⟩
  | .active, false => ⟨.clear, 0, false⟩
  | .active, true => ⟨.active, r.count, true⟩
  | .latched, b => ⟨.latched, r.count, b⟩

/-! Invariants. -/

/-- The FAULT line is asserted exactly when some fault with its LINE_MASK bit set is ACTIVE or LATCHED
(R149). -/
def FaultLineAgrees (s : State) : Prop :=
  s.lines.fault = true ↔
    ∃ f, ((s.faults.get f).state = .active ∨ (s.faults.get f).state = .latched) ∧
      (s.params.read Param.lineMask).testBit f.id = true

/-- The Intervention Table as R98 to R101 give it: at most 8 entries, no two with one id, every field in
its range; listed by rising id. -/
def TableWf (t : List Entry) : Prop :=
  t.length ≤ 8 ∧ t.Pairwise (fun a b => a.id < b.id) ∧
    ∀ e ∈ t, 1 ≤ e.id ∧ e.id ≤ 255 ∧ 1 ≤ e.lifetime ∧ e.lifetime ≤ 1000 ∧ e.value ≤ e.constraint.most

/-- The programs a queue's segments form, the incomplete one last (R117). -/
def programsOf : List Segment → List (List Segment)
  | [] => []
  | g :: gs =>
    if g.last then [g] :: programsOf gs
    else
      match programsOf gs with
      | [] => [[g]]
      | pr :: rest => (g :: pr) :: rest

/-- A segment's fields lie in their ranges (R119). -/
def SegmentWf (g : Segment) : Prop :=
  1 ≤ g.program ∧ g.program ≤ 255 ∧ g.target ≤ 1000 ∧ 1 ≤ g.duration ∧ g.duration ≤ 4000

/-- A start share is absent or lies in 0..1000 (R116). -/
def ShareWf (x : Option Int) : Prop := ∀ v, x = some v → 0 ≤ v ∧ v ≤ 1000

/-- The Program Queue as R116 and R117 give it. -/
def QueueWf (q : ProgramQueue) : Prop :=
  q.segments.length ≤ 16 ∧ (∀ g ∈ q.segments, SegmentWf g) ∧
    (∀ pr ∈ programsOf q.segments,
      pr.length ≤ 12 ∧ ∀ g ∈ pr, ∀ h ∈ pr, g.program = h.program) ∧
    ShareWf q.startShare ∧
    (q.state = .idle → q.headCount = 0 ∧ q.startShare = none) ∧
    (q.state = .running →
      (∃ g ∈ q.segments, g.last = true) ∧
        ∀ g, q.segments.head? = some g → q.headCount < g.duration)

/-- A program runs only in RUN, with propulsion ON and LINK_V not active (R123). -/
def RunningConditions (s : State) : Prop :=
  s.queue.state = .running →
    s.mode.state = .run ∧ s.demand.propulsion = true ∧ (s.faults.get .linkV).state ≠ .active

/-- Both corrections lie in 0..CORR_MAX (R60), and those a computation in flight has read are not
negative. -/
def CorrectionsWf (s : State) : Prop :=
  (∀ a, 0 ≤ s.engine.corr.get a ∧ s.engine.corr.get a ≤ (s.params.read Param.corrMax : Int)) ∧
    ∀ x, s.engine.inFlight = some x → ∀ a, 0 ≤ x.corr.get a

/-- P_f and P_r equal the sent commands of the Split Record, and the record carries the latest period
number (R8, R10). -/
def PrevAgrees (s : State) : Prop :=
  s.engine.prev = s.engine.record.sent ∧ s.engine.record.periodNumber = s.engine.periodNumber

/-- An AXLE_CMD frame as R6, R14 and R41 bound it. -/
def AxleCmdWf (c : AxleCmd) : Prop :=
  (c.mode ≠ .run → c.torque = 0) ∧ (c.available = false → c.torque = 0 ∧ c.limit = 0) ∧
    mag c.torque ≤ c.limit

/-- The frames in the command slots are so bounded. -/
def CommandsWf (s : State) : Prop := ∀ a c, s.commands.get a = some c → AxleCmdWf c

/-- The published Split Record: the final share in 0..1000 (R31); each sent torque within the requested
one and that within the axle's limit, each 0 or with the sign of D_used (R36, R41); the two requested
torques and the shortfall make up |D_used|, and the shortfall is not negative (R35); |D_used| within the
total cap in force (R22); nothing sent with IDLE set (R6). -/
def RecordWf (r : SplitRecord) : Prop :=
  0 ≤ r.sFinal ∧ r.sFinal ≤ 1000 ∧
    (∀ a, mag (r.sent.get a) ≤ mag (r.request.get a) ∧ mag (r.request.get a) ≤ r.limit.get a) ∧
    (∀ a, (r.request.get a = 0 ∨ (r.request.get a).sign = r.dUsed.sign) ∧
      (r.sent.get a = 0 ∨ (r.sent.get a).sign = r.dUsed.sign)) ∧
    mag (r.request.front) + mag (r.request.rear) + r.shortfall = mag r.dUsed ∧ 0 ≤ r.shortfall ∧
    (∀ c, r.totalCap = some c → mag r.dUsed ≤ c) ∧
    (r.flags.idle = true → r.sent = ⟨0, 0⟩)

/-- The Link Supervisor against the device state: armed in RUN and HALT and disarmed in CONFIG; disarmed,
every port reads FRESH with remaining count 0; a STALE port has no deadline running (R89, R90, R93). -/
def SupervisorWf (s : State) : Prop :=
  (s.supervisor.armed = true ↔ s.mode.state ≠ .config) ∧
    (s.supervisor.armed = false → s.supervisor = Supervisor.disarmed) ∧
    ∀ p, (s.supervisor.deadlines.get p).freshness = .stale →
      (s.supervisor.deadlines.get p).remaining = 0

/-- The states each fault takes by its class, and its count (R134, R135, R136). -/
def FaultsWf (fs : PerFault FaultRecord) : Prop :=
  (∀ f, f = .linkV ∨ f = .linkS ∨ f = .slipF ∨ f = .slipR → (fs.get f).state ≠ .latched) ∧
    (∀ f, f = .linkF ∨ f = .linkR ∨ f = .stallF ∨ f = .stallR → (fs.get f).state ≠ .active) ∧
    (∀ p, (fs.get (linkFault p)).state ≠ .pending ∧ (fs.get (linkFault p)).count = 0) ∧
    ∀ f, (fs.get f).state = .clear → (fs.get f).count = 0

/-- The fault records keep their classes; a STALE port's link fault is in force, and LINK_V or LINK_S is
ACTIVE only while its port is STALE (R140, R141). -/
def FaultMonitorWf (s : State) : Prop :=
  FaultsWf s.faults ∧
    (∀ p, (s.supervisor.deadlines.get p).freshness = .stale →
      (s.faults.get (linkFault p)).state = .active ∨ (s.faults.get (linkFault p)).state = .latched) ∧
    ∀ p, (s.faults.get (linkFault p)).state = .active →
      (s.supervisor.deadlines.get p).freshness = .stale

/-- Every parameter lies in its range (R161), every remaining count in 0..200 (section 6.2), every
qualification count in 0..5000 (R134). -/
def CountsWf (s : State) : Prop :=
  (∀ i, paramAdmits i.val (s.params.read i) = true) ∧
    (∀ p, (s.supervisor.deadlines.get p).remaining ≤ 200) ∧
    ∀ f, (s.faults.get f).count ≤ 5000 ∧ ((s.faults.get f).state = .pending → (s.faults.get f).count < 5000)

/-- Outside CONFIG the parameters pass START's consistency check, and the window lock is set (R153,
R160). -/
def RunConsistent (s : State) : Prop :=
  s.mode.state ≠ .config → consistent s.params = true ∧ s.mode.windowLock = true

/-- Every cell of every map holds a rear share in 0..1000 (R42). -/
def MapsWf (x : MapStore) : Prop := ∀ (m : Fin 4) (i : Fin 64), (x.map m)[i.val] ≤ 1000

/-- The input records lie in their ranges, and an ABSENT Axle Record reads as zeros (R68, R80, R85). -/
def RecordsWf (s : State) : Prop :=
  (-12000 ≤ s.demand.torque ∧ s.demand.torque ≤ 16000) ∧
    (-1000 ≤ s.reference.speed ∧ s.reference.speed ≤ 2500) ∧
    (s.reference.present = false → s.reference = ⟨false, 0, false⟩) ∧
    ∀ a, (s.axles.get a).driveMax ≤ 8000 ∧ (s.axles.get a).regenMax ≤ 8000 ∧
      -1000 ≤ (s.axles.get a).speed ∧ (s.axles.get a).speed ≤ 2500 ∧
      ((s.axles.get a).state = .absent → s.axles.get a = AxleRecord.reset)

/-- What a computation reads for its base share: map cells and start share in 0..1000, a head segment in
its ranges with computations left (R42, R116, R119). -/
def ShareInputsWf (x : Inputs) : Prop :=
  (∀ i : Fin 64, x.driveCells[i.val] ≤ 1000 ∧ x.regenCells[i.val] ≤ 1000) ∧
    ∀ pr, x.program = some pr →
      SegmentWf pr.segment ∧ pr.count < pr.segment.duration ∧ ShareWf pr.startShare

/-- Every share in the block that a computation can read lies in its range: the companion of QueueWf. -/
def SharesWf (s : State) : Prop :=
  MapsWf s.maps ∧ ∀ x, s.engine.inFlight = some x → ShareInputsWf x

/-- Everything a computation in flight holds lies in its range (R4, R42, R60, R68, R80, R85, R98, R116,
R161; section 1.3). -/
def InputsWf (x : Inputs) : Prop :=
  ShareInputsWf x ∧
    (-12000 ≤ x.demand.torque ∧ x.demand.torque ≤ 16000) ∧
    (-1000 ≤ x.reference.speed ∧ x.reference.speed ≤ 2500) ∧
    (∀ a, (x.axles.get a).driveMax ≤ 8000 ∧ (x.axles.get a).regenMax ≤ 8000 ∧
      -1000 ≤ (x.axles.get a).speed ∧ (x.axles.get a).speed ≤ 2500) ∧
    (∀ e ∈ x.constraints, e.2 ≤ e.1.most) ∧
    (∀ i, paramAdmits i.val (x.params.read i) = true) ∧
    (∀ a, 0 ≤ x.corr.get a ∧ x.corr.get a ≤ (x.params.read Param.corrMax : Int)) ∧
    (∀ a, mag (x.prev.get a) ≤ 8000) ∧
    x.holdCount ≤ 65535 ∧ (-12000 ≤ x.heldValue ∧ x.heldValue ≤ 16000)

/-- The Split Engine's own values lie in their ranges: P_f and P_r, the hold state (R10, R21), and of the
published record D_used in −12000..+16000 (R22), s_base in 0..1000 (R26), the limits (R32) and the
shortfall in 0..16000 (R35). -/
def EngineWf (e : Engine) : Prop :=
  (∀ a, mag (e.prev.get a) ≤ 8000) ∧ e.holdCount ≤ 65535 ∧
    (-12000 ≤ e.heldValue ∧ e.heldValue ≤ 16000) ∧
    (-12000 ≤ e.record.dUsed ∧ e.record.dUsed ≤ 16000) ∧
    (0 ≤ e.record.sBase ∧ e.record.sBase ≤ 1000) ∧
    (∀ a, 0 ≤ e.record.limit.get a ∧ e.record.limit.get a ≤ 8000) ∧
    (∀ a, mag (e.record.sent.get a) ≤ 8000) ∧
    0 ≤ e.record.shortfall ∧ e.record.shortfall ≤ 16000

/-- Every value the block stores lies in its range, those a computation in flight holds among them. -/
def StoredWf (s : State) : Prop :=
  CountsWf s ∧ MapsWf s.maps ∧ RecordsWf s ∧ TableWf s.table ∧ QueueWf s.queue ∧ CorrectionsWf s ∧
    EngineWf s.engine ∧ ∀ x, s.engine.inFlight = some x → InputsWf x

/-- The transmit side of every port: at the end of an instant an idle transmitter has no frame waiting; a
REPLY in transmission still occupies its slot; a frame on the line is twenty bytes whose CRC is good
(R167, R173, R176; log entries 10, 22). -/
def TransmitWf (s : State) : Prop :=
  (joinsInstant s = false → Quiet s) ∧ ∀ p t, (s.port p).sending = some t →
    t.bytes.length = 20 ∧ goodFrame t.bytes = true ∧ (t.slot = .reply → (s.port p).reply ≠ none)

/-- A frame in reception holds one to nineteen bytes (R165). -/
def ReceiversWf (s : State) : Prop :=
  ∀ p held, (s.port p).receiver = .receiving held → 1 ≤ held.length ∧ held.length ≤ 19

/-- While RESET is asserted the block holds every block at its reset value (R159); only the level of the
SHUTOFF input and the waiting commands with their timings are free. -/
def ResetHolds (s : State) : Prop :=
  s.lines.reset = true → s = resetAsserted s.lines.shutoff s.instant.timing s.pending

end Sys2Proof.Machine
end

