-- ==== Sys2Proof/Certificates/Slice0/Obligations.lean ====
section
/-! DEFINITION. The statements about the WT-2240 that provers are asked to settle. Each cites the rules
of spec/ it formalises; a clause that rests on a choice of the model names the log entry. In a statement about a
command, `opened s` is the state in which the command finds the block, and `closed s` what follows its effect
at its instant: both are stated in EveryCommandCompletes (log entries 10, 22 to 24). -/
open Sys2Proof Sys2Proof.Machine

/-! The queue of commands. -/

/-- A step runs the command at the front on the state with the queue's rest, and idles on an empty queue
(the host's interface; log entry 2). -/
def Obligations.StepTakesTheFrontCommand : Prop :=
  (∀ c rest s, s.pending = c :: rest → step s = exec c (s.withPending rest)) ∧
    ∀ s, s.pending = [] → step s = .next s

/-- Every command completes with a next state, in every state, taking its own timing and leaving the other
waiting commands alone (spec 00, "Requests and their effect": the part answers or discards, it never stops;
an event that cannot occur changes nothing: log entries 2, 6, 19). What comes before its effect: a command at
an instant of its own, with nothing left of an earlier one, finds the block as it stands; one that joins its
instant finds the deadlines that are due expired; otherwise the earlier instant is ended first. What comes
after it: the change that the command before it left; then, unless the next command joins, the end of the
instant, at which the change this command left is taken, the deadlines that are due expire, and only then the
transmissions begin, so that the entries and triggers of one instant fold (R145, R153); nothing is left of it
(log entries 10, 22 to 24). -/
def Obligations.EveryCommandCompletes : Prop :=
  (∀ c s, ∃ u, exec c s = .next (closed s u) ∧ (closed s u).pending = s.pending ∧
    (closed s u).instant.timing = s.instant.timing.tail) ∧
  (∀ s, Settled s → opened s =
    { s with instant := { s.instant with timing := s.instant.timing.tail } }) ∧
  (∀ s, let d : State := { s with instant := ⟨s.instant.timing.tail, none, s.instant.counted⟩ }
    (joinsInstant s = true → opened s = settleDeadlines d) ∧
    (joinsInstant s = false → ∃ e,
      e = startTransmitters (settleDeadlines (finish s.instant.remainder d)) ∧
      opened s = { e with instant := { e.instant with counted := false } })) ∧
  (∀ s u, ∃ v, v = finish (if joinsInstant s = true then s.instant.remainder else none) u ∧
    (joinsInstant u = true → closed s u = v) ∧
    (joinsInstant u = false → Settled (closed s u) ∧ ∃ e,
      e = startTransmitters (settleDeadlines (finish u.instant.remainder
        { v with instant := { v.instant with remainder := none } })) ∧
      closed s u = { e with instant := { e.instant with counted := false } })) ∧
  ∀ s u, joinsInstant s = false → joinsInstant u = false → u.instant.remainder = none →
    u.instant.counted = false → (∀ p, deadlineDue u p = false) → closed s u = startTransmitters u

/-! RESET. -/

/-- RESET_ASSERT puts every block at its reset value, abandons the computation, empties every slot and
sticky set and stops the timer (R1, R7, R12, R159, R180). RESET_RELEASE, while RESET is asserted, begins the
first interval, with the reset default of PERIOD_US, and changes nothing else, so that after a RESET_ASSERT it
leaves the state right after RESET (R1, R159); while RESET is not asserted it changes nothing (log entry 6).
The level of SHUTOFF and the waiting commands with their timings stay (log entries 2, 5, 22). -/
def Obligations.ResetReturnsTheResetState : Prop :=
  (∀ s, exec .resetAssert s =
      .next { State.reset with
        lines := ⟨true, s.lines.shutoff, false⟩
        engine := { State.reset.engine with interval := none }
        instant := ⟨s.instant.timing.tail, none, false⟩
        pending := s.pending } ∧
    ∀ t, exec .resetAssert s = .next t →
      exec .resetRelease t =
        .next { State.reset with
          lines := ⟨false, s.lines.shutoff, false⟩
          instant := ⟨s.instant.timing.tail.tail, none, false⟩
          pending := s.pending }) ∧
  ∀ s, let a := opened s
    (s.lines.reset = true → exec .resetRelease s =
      .next (closed s { a with
        lines := { a.lines with reset := false }
        engine := { a.engine with interval := some 1000 } })) ∧
    (s.lines.reset = false → exec .resetRelease s = .next (closed s a))

/-- While RESET is asserted the part holds every block at its reset value: no command but those of the
SHUTOFF and RESET lines changes anything but the list of timings, and SHUTOFF changes its own level alone
(R159, R180, R1; log entries 5, 6, 22). -/
def Obligations.NothingMovesWhileResetIsAsserted : Prop :=
  ∀ s, s.lines.reset = true → ResetHolds s →
    let a : State := { s with instant := ⟨s.instant.timing.tail, none, false⟩ }
    (∀ c, c ≠ .shutoffAssert → c ≠ .shutoffRelease → c ≠ .resetRelease → exec c s = .next a) ∧
    exec .shutoffAssert s = .next { a with lines := { s.lines with shutoff := true } } ∧
    exec .shutoffRelease s = .next { a with lines := { s.lines with shutoff := false } }

/-- The reset values the manual gives: device state and lock (R151), every parameter (R161), maps and
selections (R42), the Demand, Axle and Reference Records (R85, R68, R80), supervisor (R93), table (R98),
queue (R116), faults (R134), the timer, the period number, corrections, P_f and P_r, hold state and START
mark (R1, R8, R9, section 1.4), the Split Record (R12), no computation in flight, every slot and sticky set
empty and every receiver in HUNT (R180). -/
def Obligations.ResetStateHasTheManualsValues : Prop :=
  State.reset.mode = ⟨.config, false⟩ ∧ State.reset.lines.fault = false ∧
    (∀ i : Fin 40, State.reset.params.read i =
      [1000, 0, 100, 200, 400, 600, 900, 1200, 1600, 0, 1000, 2000, 4000, 6000, 8000, 11000, 14000,
        40, 40, 80, 8, 2, 300, 30, 3000, 5, 2000, 1500, 500, 20, 10, 10, 20, 50, 20, 6000, 10, 3,
        255, 0].getD i.val 0) ∧
    (∀ (m : Fin 4) (i : Fin 64), (State.reset.maps.map m)[i.val] = 500) ∧
    State.reset.maps.drive = 0 ∧ State.reset.maps.regen = 0 ∧
    State.reset.demand = ⟨0, false⟩ ∧ (∀ a, State.reset.axles.get a = ⟨.absent, 0, 0, 0, false⟩) ∧
    State.reset.reference = ⟨false, 0, false⟩ ∧ State.reset.supervisor.armed = false ∧
    (∀ p, (State.reset.supervisor.deadlines.get p).freshness = .fresh ∧
      (State.reset.supervisor.deadlines.get p).remaining = 0) ∧
    State.reset.table = [] ∧ State.reset.queue = ⟨[], .idle, 0, none⟩ ∧
    (∀ f, State.reset.faults.get f = ⟨.clear, 0, false⟩) ∧
    State.reset.engine.interval = some 1000 ∧ State.reset.engine.inFlight = none ∧
    State.reset.engine.startMark = false ∧ State.reset.engine.periodNumber = 0#16 ∧
    State.reset.engine.corr = ⟨0, 0⟩ ∧ State.reset.engine.prev = ⟨0, 0⟩ ∧
    State.reset.engine.holdCount = 0 ∧ State.reset.engine.heldValue = 0 ∧
    State.reset.engine.record =
      { periodNumber := 0#16
        dUsed := 0
        totalCap := none
        source := .map
        sBase := 0
        corr := ⟨0, 0⟩
        sFinal := 0
        limit := ⟨0, 0⟩
        request := ⟨0, 0⟩
        sent := ⟨0, 0⟩
        shortfall := 0
        flags := ⟨false, false, false, false, false, false, false, false, false, false, false, false⟩ } ∧
    State.reset.commands = ⟨none, none⟩ ∧
    ∀ p, State.reset.ports.get p =
      ⟨.hunt, none, false, none,
        ⟨false, false, false, ⟨false, false, false, false, false, false, false, false⟩⟩⟩

/-- The reset state meets every invariant stated below. -/
def Obligations.ResetStateMeetsEveryInvariant : Prop :=
  FaultLineAgrees State.reset ∧ TableWf State.reset.table ∧ QueueWf State.reset.queue ∧
    SharesWf State.reset ∧ RunningConditions State.reset ∧ CorrectionsWf State.reset ∧
    PrevAgrees State.reset ∧ CommandsWf State.reset ∧ RecordWf State.reset.engine.record ∧
    SupervisorWf State.reset ∧ FaultMonitorWf State.reset ∧ CountsWf State.reset ∧
    RunConsistent State.reset ∧ MapsWf State.reset.maps ∧ RecordsWf State.reset ∧
    StoredWf State.reset ∧ TransmitWf State.reset ∧ ReceiversWf State.reset ∧ ResetHolds State.reset

/-! Invariants: every step keeps them, from every state that meets them. -/

/-- The FAULT line is asserted exactly when some fault with its LINE_MASK bit set is ACTIVE or LATCHED,
after every step (R149). -/
def Obligations.FaultLineFollowsTheFaults : Prop :=
  ∀ s t, FaultLineAgrees s → step s = .next t → FaultLineAgrees t

/-- Every step keeps the Intervention Table at 8 entries at most, one per id, every field in range (R98,
R100, R101). That the entries are listed by rising id is the model's choice (log entry 13). -/
def Obligations.StepKeepsTheTableWellFormed : Prop :=
  ∀ s t, TableWf s.table → step s = .next t → TableWf t.table

/-- Every step keeps the Program Queue as R116 and R117 describe it, the start share absent or in 0..1000
among it, together with the ranges of what computations read for their base share: the map cells (R42) and,
of a computation in flight, its cells, head segment and start share. -/
def Obligations.StepKeepsTheQueueWellFormed : Prop :=
  ∀ s t, QueueWf s.queue → SharesWf s → step s = .next t → QueueWf t.queue ∧ SharesWf t

/-- A running program never outlives its conditions: every step that would make one fail aborts it (R123,
R129). -/
def Obligations.RunningProgramsKeepTheirConditions : Prop :=
  ∀ s t, RunningConditions s → step s = .next t → RunningConditions t

/-- Each of c_f and c_r lies in 0..CORR_MAX after every step (R60). -/
def Obligations.CorrectionsStayWithinCorrMax : Prop :=
  ∀ s t, CorrectionsWf s → step s = .next t → CorrectionsWf t

/-- P_f and P_r always equal the sent commands of the published Split Record, which carries the latest
period number (R8, R10). The published record: final share in 0..1000 (R31); sent torques within the
requested ones, and those within the limits, each 0 or with the sign of D_used (R36, R40); |D_used| within
the total cap in force and made up of the two requested torques and a shortfall that is not negative (R22,
R35); nothing sent with IDLE set (R6). Every AXLE_CMD frame in a command slot carries torque 0 outside RUN,
torque 0 and limit 0 for an unavailable axle, and a torque within its limit (R6, R14, R32). -/
def Obligations.PublicationKeepsItsBounds : Prop :=
  (∀ s t, PrevAgrees s → step s = .next t → PrevAgrees t) ∧
    (∀ s t, RecordWf s.engine.record → step s = .next t → RecordWf t.engine.record) ∧
    ∀ s t, CommandsWf s → step s = .next t → CommandsWf t

/-- The supervisor is armed exactly outside CONFIG, and disarmed it reads every port FRESH with no
deadline running (R89, R93); in RUN and HALT the parameters pass START's consistency check and the window
lock is set (R153, R154, R160). -/
def Obligations.ModeRulesSupervisorLockAndParameters : Prop :=
  (∀ s t, SupervisorWf s → step s = .next t → SupervisorWf t) ∧
    ∀ s t, RunConsistent s → step s = .next t → RunConsistent t

/-- A self-clearing fault is never LATCHED, a latching one never ACTIVE, a link fault never PENDING, and a
CLEAR fault's count is 0 (R134, R135); a STALE port's link fault stays in force, and LINK_V and LINK_S
are ACTIVE only while their port is STALE (R92, R140, R141). -/
def Obligations.FaultRecordsKeepTheirRules : Prop :=
  ∀ s t, FaultMonitorWf s → step s = .next t → FaultMonitorWf t

/-- Every stored value stays in its range: parameters, remaining counts and qualification counts (R161,
R162, R134), map cells (R42, R46), the Demand, Axle and Reference Records (R68, R70, R80, R81, R85, R86);
and, with the table, the queue and the corrections in theirs, everything a computation in flight holds (R4),
P_f, P_r and the hold state (R10, R21), and the published record's D_used in −12000..+16000 (R22), s_base in
0..1000 (R26), limits in 0..8000 (R32) and shortfall in 0..16000 (R35). -/
def Obligations.StoredValuesStayInRange : Prop :=
  (∀ s t, CountsWf s → step s = .next t → CountsWf t) ∧
    (∀ s t, MapsWf s.maps → step s = .next t → MapsWf t.maps) ∧
    (∀ s t, RecordsWf s → step s = .next t → RecordsWf t) ∧
    ∀ s t, StoredWf s → step s = .next t → StoredWf t

/-- At the end of an instant no idle transmitter leaves a frame waiting; a REPLY in transmission occupies
its slot; every frame on a line is twenty bytes with a good CRC (R167, R173, R176). That a frame begins at
the end of the instant that places it is log entry 10. -/
def Obligations.TransmittersNeverIdleWithAFrame : Prop :=
  ∀ s t, TransmitWf s → step s = .next t → TransmitWf t

/-- A frame in reception holds one to nineteen bytes, and while RESET is asserted every block stays at its
reset value (R165, R159). -/
def Obligations.ReceptionAndResetStayWellFormed : Prop :=
  (∀ s t, ReceiversWf s → step s = .next t → ReceiversWf t) ∧
    ∀ s t, ResetHolds s → step s = .next t → ResetHolds t

/-! Rules over all commands. -/

/-- The device state changes only as R152's table says: into HALT from RUN only, into CONFIG from HALT
only but for RESET, and into RUN from CONFIG or HALT only while SHUTOFF is released. -/
def Obligations.ModeChangesOnlyByTheTable : Prop :=
  ∀ c s t, exec c s = .next t → c ≠ .resetAssert →
    t.mode.state = s.mode.state ∨ (s.mode.state = .run ∧ t.mode.state = .halt) ∨
      (s.mode.state = .halt ∧ t.mode.state = .config) ∨
      (s.mode.state ≠ .run ∧ t.mode.state = .run ∧ s.lines.shutoff = false ∧
        consistent s.params = true)

/-- The parameters are constant outside CONFIG until RESET; the four windows are constant once the window
lock is set, and nothing but RESET clears it (R96, R160, R161). -/
def Obligations.ParametersAreLockedOutsideConfig : Prop :=
  ∀ c s t, exec c s = .next t → c ≠ .resetAssert →
    (s.mode.state ≠ .config → t.params = s.params) ∧
      (s.mode.windowLock = true →
        t.mode.windowLock = true ∧ ∀ p, t.params.read (windowParam p) = s.params.read (windowParam p))

/-- What happens on the drive units' ports reaches the device state, the window lock, the parameters, the
maps and selections, the Demand and Reference Records and the Intervention Table in no way: no frame, byte or
line event of PF or PR, and no deadline of theirs, changes one of them (R170). (What the command before had
left to be taken in these records is taken with it: log entry 23.) -/
def Obligations.DriveUnitsCannotConfigure : Prop :=
  ∀ c s p, portOf c = some p → p = .pf ∨ p = .pr →
    ∃ u, exec c s = .next (closed s u) ∧ u.demand = (opened s).demand ∧
      u.reference = (opened s).reference ∧ u.mode = s.mode ∧ u.params = s.params ∧ u.maps = s.maps ∧
      u.table = s.table ∧ (closed s u).mode = s.mode ∧ (closed s u).params = s.params ∧
      (closed s u).maps = s.maps ∧ (closed s u).table = s.table ∧
      (s.instant.remainder = none →
        (closed s u).demand = s.demand ∧ (closed s u).reference = s.reference)

/-- A computation in flight keeps the inputs it read at its start: only its completion, the next period
expiry (or the start it has left for later) and RESET end it (R4, R5, R7; that a period expiry first
completes it is log entry 9, that it may leave its start for later log entry 23). -/
def Obligations.InputsAreHeldUntilCompletion : Prop :=
  ∀ c s t x, s.engine.inFlight = some x → s.instant.remainder ≠ some .computationStart →
    exec c s = .next t → c ≠ .completion → c ≠ .periodExpiry → c ≠ .resetAssert →
    t.engine.inFlight = some x

/-! Receiving frames. -/

/-- The twenty bytes of every frame command, laid out by R181 and sealed by R167's CRC, decode to that
command on its port; so does every good frame that agrees with them in kind, tag and the listed payload
bytes, whatever its other payload bytes. -/
def Obligations.FrameBytesDecodeToTheirCommand : Prop :=
  ∀ c p f, c.wellFormed = true → portOf c = some p → commandFrame c = some f →
    f.length = 20 ∧ goodFrame f = true ∧ decodeFrame p f = c ∧
    ∀ g, goodFrame g = true → byteAt g 0 = byteAt f 0 → byteAt g 1 = byteAt f 1 →
      (∀ i ∈ listedBytes c, byteAt g i = byteAt f i) → decodeFrame p g = c

/-- A frame command is its twenty bytes: with the first nineteen held, the arrival of the twentieth does
what the frame command does there; and after RECEIVE_IDLE and the first nineteen bytes one by one, each at an
instant of its own, the receiver holds them, and the frame command does there what it does on the free
receiver (R165, R167, R171; that a frame command may be taken on a free receiver is the model's choice, log
entry 7). A twentieth byte that does not complete a good frame does what CRC_ERROR does (R167). -/
def Obligations.ByteByByteReceptionIsTheFrameCommand : Prop :=
  (∀ (c : Instr) (p : Port) (f : List Byte),
    c.wellFormed = true → portOf c = some p → commandFrame c = some f →
    ∃ b, f = f.take 19 ++ [b] ∧
      (∀ u : State, (u.port p).receiver = .receiving (f.take 19) →
        exec (.byteArrival p b) u = exec c u) ∧
      ∀ s : State, s.lines.reset = false → (s.port p).receiver = .hunt → Settled s →
        s.instant.timing = [] →
        ∃ u, Sys2Proof.core.run 20
            (s.withPending (.receiveIdle p :: (f.take 19).map (Instr.byteArrival p))) = .next u ∧
          u = (s.withPort p { s.port p with receiver := .receiving (f.take 19) }).withPending [] ∧
          exec c u = exec c (s.withPending [])) ∧
  ∀ p held b (u : State), (u.port p).receiver = .receiving held → held.length = 19 →
    goodFrame (held ++ [b]) = false → exec (.byteArrival p b) u = exec (.crcError p) u

/-- The receiver's events, state by state (R165, R166, R167): what each does to the receiver and to the
sticky set's LINK_ERROR, and that its effect is nothing else. (An event that cannot occur in a state changes
nothing: log entry 6. A framing error in HUNT and a bad CRC in any state: log entries 12, 20.) -/
def Obligations.ReceiverEventsFollowTheStates : Prop :=
  ∀ s p, s.lines.reset = false →
    let a := opened s
    let broken := a.withPort p { a.port p with
      receiver := .hunt
      sticky := { (a.port p).sticky with linkError := true } }
    ((s.port p).receiver = .hunt →
      exec (.receiveIdle p) s = .next (closed s (a.withPort p { a.port p with receiver := .ready })) ∧
      exec (.frameGap p) s = .next (closed s a) ∧
      exec (.byteInHunt p) s = .next (closed s broken) ∧
      ∀ b, exec (.byteArrival p b) s = .next (closed s broken)) ∧
    ((s.port p).receiver = .ready →
      exec (.receiveIdle p) s = .next (closed s a) ∧ exec (.frameGap p) s = .next (closed s a) ∧
      exec (.byteInHunt p) s = .next (closed s a) ∧
      ∀ b, exec (.byteArrival p b) s =
        .next (closed s (a.withPort p { a.port p with receiver := .receiving [b] }))) ∧
    (∀ held, (s.port p).receiver = .receiving held →
      exec (.receiveIdle p) s = .next (closed s a) ∧ exec (.byteInHunt p) s = .next (closed s a) ∧
      exec (.frameGap p) s = .next (closed s broken) ∧
      (held.length < 19 → ∀ b, exec (.byteArrival p b) s =
        .next (closed s (a.withPort p { a.port p with receiver := .receiving (held ++ [b]) })))) ∧
    exec (.framingError p) s = .next (closed s broken) ∧
    exec (.crcError p) s = .next (closed s broken)

/-- A good frame refreshes its port while the supervisor is armed: a FRESH port's deadline restarts from
its window with no event; a STALE port becomes FRESH with its window, and the fresh event clears an ACTIVE
LINK_V or LINK_S, with count 0, and leaves a LATCHED fault LATCHED. Disarmed, it changes nothing (R91, R92,
R140). It changes nothing but the port's deadline, its link fault and the FAULT line, which follows the
faults (R149). -/
def Obligations.GoodFramesRefreshTheDeadline : Prop :=
  ∀ s p, let d := s.supervisor.deadlines.get p
    let w := s.params.read (windowParam p)
    let f := linkFault p
    let restarted : Supervisor := { s.supervisor with
      deadlines := s.supervisor.deadlines.set p ⟨.fresh, w, d.countedAhead⟩ }
    let cleared := s.faults.set f { s.faults.get f with state := .clear, count := 0 }
    (s.supervisor.armed = false → refreshPort p s = s) ∧
    (s.supervisor.armed = true →
      (d.freshness = .fresh ∨ (s.faults.get f).state ≠ .active →
        refreshPort p s = { s with supervisor := restarted }) ∧
      (d.freshness = .stale → (s.faults.get f).state = .active →
        refreshPort p s = { s with
          supervisor := restarted
          faults := cleared
          lines := { s.lines with fault := faultLineLevel s.params cleared } }))

/-- The permission table of R170, and what it refuses: a frame of a known kind that is not permitted on its
port is refused PERMISSION; it reaches no block, and its REPLY names its kind; it still refreshes the
port's deadline (R170, R171; the frame's earlier bytes: log entry 7). -/
def Obligations.FramesWithoutPermissionAreRefused : Prop :=
  (∀ s p k, permitted s p k = true ↔
    (k = .poll) ∨ (k = .envelope ∧ (p = .pf ∨ p = .pr)) ∨
    ((k = .reference ∨ k = .intervene ∨ k = .release) ∧ p = .ps) ∨
    ((k = .demand ∨ k = .setParam ∨ k = .readParam ∨ k = .writeCells ∨ k = .start ∨ k = .stop ∨
      k = .configure ∨ k = .clearFault ∨ k = .queueSegment ∨ k = .selectMaps ∨ k = .abortProgram) ∧
      p = .pv) ∨
    (k = .selectMaps ∧ p = .ps ∧ (s.params.read Param.grant).testBit 0 = true) ∨
    (k = .abortProgram ∧ p = .ps ∧ (s.params.read Param.grant).testBit 1 = true)) ∧
  ∀ c p k tag s, frameOf c = some (p, k, tag) → permitted s p k = false → Answerable s p c →
    exec c s = .next (closed s (replied p tag k.code .permission 0 (refreshPort p (opened s))))

/-- A frame that would produce a REPLY, arriving while the port's reply slot is occupied, is discarded:
no effect beyond the refresh, and OVERRUN is marked (R171, step 4; R173; log entry 7). -/
def Obligations.OverrunFramesAreDiscarded : Prop :=
  ∀ c p k tag s, frameOf c = some (p, k, tag) → (k.silent = true → permitted s p k = false) →
    canArrive s p c = true → (s.port p).reply ≠ none →
    exec c s = .next (closed s (markOverrun p (heard p (refreshPort p (opened s)))))

/-- A good frame whose kind is none of the sixteen, the three sent kinds among them, is refused
UNKNOWN_KIND: the REPLY names the received kind byte and echoes the tag, and the frame reaches no block;
while the reply slot is occupied it is discarded and marks OVERRUN (R169, R171; log entry 7). -/
def Obligations.UnknownKindsAreRefused : Prop :=
  receivedKinds.length = 16 ∧
  (∀ k : Byte, (k = 0x80#8 ∨ k = 0x90#8 ∨ k = 0xA0#8) → k ∉ receivedKinds) ∧
  ∀ s p tag kind, kind ∉ receivedKinds →
    let u := refreshPort p (opened s)
    (Answerable s p (.unknownKind p tag kind) →
      exec (.unknownKind p tag kind) s =
        .next (closed s (replied p tag kind .unknownKind 0 u))) ∧
    (canArrive s p (.unknownKind p tag kind) = true → (s.port p).reply ≠ none →
      exec (.unknownKind p tag kind) s = .next (closed s (markOverrun p (heard p u))))

/-- A POLL, on any port, triggers a status frame on that port alone and produces no REPLY, whether or not
the reply slot is occupied (R171, R179). At an instant of its own the STATUS frame begins at once on an idle
line, composed from the state as it stands, and empties the port's sticky set; on a busy line it waits (R174,
R176, R177, R178; log entries 7, 10; with every window in R161's range, which CountsWf says). -/
def Obligations.PollTriggersStatusOnItsPort : Prop :=
  ∀ s p tag, canArrive s p (.poll p tag) = true →
    let a := opened s
    let u := (refreshPort p a).withPort p { a.port p with receiver := .hunt, statusWaiting := true }
    exec (.poll p tag) s = .next (closed s u) ∧
    (Settled s → Alone s → CountsWf s →
      ((s.port p).sending ≠ none → exec (.poll p tag) s = .next u) ∧
      ((s.port p).sending = none → exec (.poll p tag) s =
        .next (u.withPort p
          { a.port p with
            receiver := .hunt
            statusWaiting := false
            sending := some ⟨.status, statusBytes u p⟩
            sticky := StickySet.empty })))

/-! Sending frames. -/

/-- The frames the part sends, field by field (R177, R181). STATUS: mode, active-or-latched set, latched
set, sticky entries and events, running program (0 when IDLE), segments, entries, sent commands and final
share. REPLY: the tag echoed, kind, outcome and value (R172). AXLE_CMD: torque, period number, mode,
available, flags and limit (R14). The codes of modes and outcomes, and the bits of the flag bytes. Each frame
is twenty bytes with a good CRC (R167). -/
def Obligations.StatusFrameCarriesTheState : Prop :=
  (∀ s p, let b := statusBytes s p
    byteAt b 0 = 0x90#8 ∧ byteAt b 1 = 0#8 ∧ byteAt b 2 = s.mode.state.code ∧
    (∀ f : FaultId,
      ((byteAt b 3).getLsbD f.id = true ↔
        (s.faults.get f).state = .active ∨ (s.faults.get f).state = .latched) ∧
      ((byteAt b 4).getLsbD f.id = true ↔ (s.faults.get f).state = .latched) ∧
      (byteAt b 5).getLsbD f.id = (s.port p).sticky.faults.get f) ∧
    (byteAt b 6).getLsbD 0 = (s.port p).sticky.linkError ∧
    (byteAt b 6).getLsbD 1 = (s.port p).sticky.overrun ∧
    (byteAt b 6).getLsbD 2 = (s.port p).sticky.clamped ∧ (byteAt b 6).toNat < 8 ∧
    byteAt b 7 = s.engine.record.flags.groupA ∧ byteAt b 8 = s.engine.record.flags.groupB ∧
    (s.queue.state = .idle → byteAt b 9 = 0#8) ∧
    (s.queue.state = .running → ∀ g, s.queue.segments.head? = some g →
      byteAt b 9 = BitVec.ofNat 8 g.program) ∧
    byteAt b 10 = BitVec.ofNat 8 s.queue.segments.length ∧
    byteAt b 11 = BitVec.ofNat 8 s.table.length ∧
    halfAt b 12 = BitVec.ofInt 16 s.engine.record.sent.front ∧
    halfAt b 14 = BitVec.ofInt 16 s.engine.record.sent.rear ∧
    halfAt b 16 = BitVec.ofInt 16 s.engine.record.sFinal ∧
    b.length = 20 ∧ goodFrame b = true) ∧
  (∀ r : Reply, let b := r.bytes
    byteAt b 0 = 0x80#8 ∧ byteAt b 1 = r.tag ∧ byteAt b 2 = r.kind ∧ byteAt b 3 = r.outcome.code ∧
    halfAt b 4 = BitVec.ofNat 16 r.value ∧ (∀ i, 6 ≤ i → i < 18 → byteAt b i = 0#8) ∧
    b.length = 20 ∧ goodFrame b = true) ∧
  (∀ c : AxleCmd, let b := c.bytes
    byteAt b 0 = 0xA0#8 ∧ byteAt b 1 = 0#8 ∧ halfAt b 2 = BitVec.ofInt 16 c.torque ∧
    halfAt b 4 = c.periodNumber ∧ byteAt b 6 = c.mode.code ∧
    byteAt b 7 = (if c.available = true then 1#8 else 0#8) ∧ byteAt b 8 = c.flags.groupA ∧
    byteAt b 9 = c.flags.groupB ∧ halfAt b 10 = BitVec.ofInt 16 c.limit ∧
    (∀ i, 12 ≤ i → i < 18 → byteAt b i = 0#8) ∧ b.length = 20 ∧ goodFrame b = true) ∧
  (∀ x : SplitFlags, let a := x.groupA
    let b := x.groupB
    a.getLsbD 0 = x.satF ∧ a.getLsbD 1 = x.satR ∧ a.getLsbD 2 = x.redist ∧ a.getLsbD 3 = x.shortfall ∧
    a.getLsbD 4 = x.rateF ∧ a.getLsbD 5 = x.rateR ∧ a.getLsbD 6 = x.conflict ∧
    a.getLsbD 7 = x.totalCapped ∧ b.getLsbD 0 = x.held ∧ b.getLsbD 1 = x.idle ∧
    b.getLsbD 2 = x.program ∧ b.getLsbD 3 = x.fallbackRef ∧ b.toNat < 16) ∧
  [Mode.config, .run, .halt].map Mode.code = [0#8, 1#8, 2#8] ∧
  [ReplyCode.ok, .clamped, .permission, .unknownKind, .state, .range, .full, .mismatch, .tooLong,
    .notFound, .inUse, .configInvalid, .conditionPresent, .locked].map ReplyCode.code =
    [0#8, 1#8, 2#8, 3#8, 4#8, 5#8, 6#8, 7#8, 8#8, 9#8, 10#8, 11#8, 12#8, 13#8]

/-- At a transmit completion the transmitter is idle and chooses again: the command slot, else the reply
slot, else the status slot; a REPLY's slot becomes empty at its completion; nothing changes on another
port (R173, R174, R175, R176, R177). With no frame on the line none completes (log entry 6). At the end of an
instant every idle transmitter chooses so, each on its own port, and nothing else changes (R176; log entry
10). -/
def Obligations.TransmitCompletionChoosesByRank : Prop :=
  (∀ s p, s.lines.reset = false →
    let a := opened s
    ((a.port p).sending = none → exec (.transmitCompletion p) s = .next (closed s a)) ∧
    ∀ x, (a.port p).sending = some x →
      let r := if x.slot = .reply then none else (a.port p).reply
      (∀ c, waitingCommand a p = some c →
        exec (.transmitCompletion p) s =
          .next (closed s ((emptyCommandSlot p a).withPort p
            { a.port p with reply := r, sending := some ⟨.command, c.bytes⟩ }))) ∧
      (waitingCommand a p = none → ∀ y, r = some y →
        exec (.transmitCompletion p) s =
          .next (closed s (a.withPort p
            { a.port p with reply := some y, sending := some ⟨.reply, y.bytes⟩ }))) ∧
      (waitingCommand a p = none → r = none → (a.port p).statusWaiting = true →
        exec (.transmitCompletion p) s =
          .next (closed s (a.withPort p
            { a.port p with
              reply := none
              statusWaiting := false
              sending := some ⟨.status, statusBytes a p⟩
              sticky := StickySet.empty }))) ∧
      (waitingCommand a p = none → r = none → (a.port p).statusWaiting = false →
        exec (.transmitCompletion p) s =
          .next (closed s (a.withPort p { a.port p with reply := none, sending := none })))) ∧
  ∀ s, ∃ t, startTransmitters s = t ∧ t = { s with commands := t.commands, ports := t.ports } ∧
    (∀ p, let l := s.port p
      ((l.sending ≠ none ∨
          (waitingCommand s p = none ∧ l.reply = none ∧ l.statusWaiting = false)) → t.port p = l) ∧
      (l.sending = none →
        (∀ c, waitingCommand s p = some c →
          t.port p = { l with sending := some ⟨.command, c.bytes⟩ }) ∧
        (waitingCommand s p = none → ∀ r, l.reply = some r →
          t.port p = { l with sending := some ⟨.reply, r.bytes⟩ }) ∧
        (waitingCommand s p = none → l.reply = none → l.statusWaiting = true →
          t.port p = { l with
            statusWaiting := false
            sending := some ⟨.status, statusBytes s p⟩
            sticky := StickySet.empty }))) ∧
    ∀ p a, portAxle p = some a →
      t.commands.get a = if (s.port p).sending = none then none else s.commands.get a

/-! Streaming inputs. -/

/-- A DEMAND frame on PV replaces both fields of the Demand Record, the torque clamped to −12000..+16000;
a change marks CLAMPED on PV alone; a change of propulsion from ON to OFF empties the Program Queue;
nothing else changes but the refresh (R86, R87, R91). It is taken whether or not the reply slot is
occupied. Where the frame also produces a fresh event, the two changes are two blocks', and either may come
first with another event of the instant, such as a computation's start, between them (R20, R88): in the order
firstNow the record's update is left for after the next command, in secondNow the fresh event is, with the
refresh of R91 (log entry 27); where it produces none, the change is one (log entry 23). (The frame's earlier
bytes: log entry 7.) -/
def Obligations.DemandReplacesTheRecord : Prop :=
  (∀ s tag torque b, let c := Instr.demand .pv tag torque b
    let a := opened s
    let v := torque.toInt
    let v' := if v < -12000 then -12000 else if 16000 < v then 16000 else v
    let taken : State → State := fun x => { x with
      demand := ⟨v', b != 0#8⟩
      queue := if x.demand.propulsion = true ∧ b = 0#8 then ⟨[], .idle, 0, none⟩ else x.queue
      ports := x.ports.set .pv
        { x.port .pv with
          sticky := { (x.port .pv).sticky with
            clamped := (x.port .pv).sticky.clamped || v' != v } } }
    let fresh := a.supervisor.armed = true ∧ (a.supervisor.deadlines.get .pv).freshness = .stale
    canArrive s .pv c = true →
    ((timingOf s).order = .whole ∨ ¬ fresh →
      exec c s = .next (closed s (taken (heard .pv (refreshPort .pv a))))) ∧
    (fresh → (timingOf s).order = .firstNow → exec c s =
      .next (closed s (leave (.demandRecord torque b) (heard .pv (refreshPort .pv a))))) ∧
    (fresh → (timingOf s).order = .secondNow → exec c s =
      .next (closed s (leave (.freshEvent .pv) (taken (heard .pv a))))) ∧
    ∀ x : State, x.lines.reset = false → finish (some (.demandRecord torque b)) x = taken x) ∧
  ∀ (x : State) p, x.lines.reset = false → finish (some (.freshEvent p)) x = refreshPort p x

/-- An ENVELOPE frame on PF or PR replaces the whole Axle Record of its axle, clamped, and makes it
REPORTING (R69, R70); a REFERENCE frame on PS replaces speed, clamped, and valid flag and sets present
(R81). A change by the clamp marks CLAMPED on that port alone; nothing else changes but the refresh (R91; log
entry 7). Where a REFERENCE also produces a fresh event, either change may come first with another event of
the instant between them (R83, R92): the orders are as for DEMAND (log entries 23, 27). -/
def Obligations.EnvelopeAndReferenceReplaceTheirRecords : Prop :=
  (∀ s p ax tag dm rm sp ready, portAxle p = some ax →
      let c := Instr.envelope p tag dm rm sp ready
      let u := heard p (refreshPort p (opened s))
      let v := sp.toInt
      let v' := if v < -1000 then -1000 else if 2500 < v then 2500 else v
      let d' := min dm.toNat 8000
      let r' := min rm.toNat 8000
      canArrive s p c = true →
      exec c s = .next (closed s { u with
        axles := u.axles.set ax ⟨.reporting, d', r', v', ready != 0#8⟩
        ports := u.ports.set p
          { u.port p with
            sticky := { (u.port p).sticky with
              clamped := (u.port p).sticky.clamped ||
                (d' != dm.toNat || r' != rm.toNat || v' != v) } } })) ∧
  (∀ s tag sp valid, let c := Instr.reference .ps tag sp valid
      let a := opened s
      let v := sp.toInt
      let v' := if v < -1000 then -1000 else if 2500 < v then 2500 else v
      let taken : State → State := fun x => { x with
        reference := ⟨true, v', valid != 0#8⟩
        ports := x.ports.set .ps
          { x.port .ps with
            sticky := { (x.port .ps).sticky with
              clamped := (x.port .ps).sticky.clamped || v' != v } } }
      let fresh := a.supervisor.armed = true ∧ (a.supervisor.deadlines.get .ps).freshness = .stale
      canArrive s .ps c = true →
      ((timingOf s).order = .whole ∨ ¬ fresh →
        exec c s = .next (closed s (taken (heard .ps (refreshPort .ps a))))) ∧
      (fresh → (timingOf s).order = .firstNow → exec c s =
        .next (closed s (leave (.referenceRecord sp valid) (heard .ps (refreshPort .ps a))))) ∧
      (fresh → (timingOf s).order = .secondNow → exec c s =
        .next (closed s (leave (.freshEvent .ps) (taken (heard .ps a))))) ∧
      ∀ x : State, x.lines.reset = false → finish (some (.referenceRecord sp valid)) x = taken x)

/-! Requests. In each, `u` is the state after the refresh of R171's step 1, and `replied` adds the REPLY
with the receiver in HUNT: a request changes what its rule names and nothing else. That a free receiver
takes a frame command is log entry 7; when the REPLY and status frames placed begin is log entry 10. -/

/-- The range of every parameter, as R161 gives it, three values alone for PERIOD_US. SET_PARAM: the checks of
R162 in their order, and the write with what R163 gives at the write: corrections lowered to a lower CORR_MAX,
the FAULT line re-evaluated at a LINE_MASK write. READ_PARAM returns the value as it stands, RANGE above id
39, and changes no state but the refresh (R164). -/
def Obligations.ParametersAreWrittenAndRead : Prop :=
  (∀ (i : Fin 40) (v : Nat), paramAdmits i.val v = true ↔
    let r : Nat × Nat := ([(500, 2000), (0, 2500), (0, 2500), (0, 2500), (0, 2500), (0, 2500), (0, 2500),
      (0, 2500), (0, 2500), (0, 16000), (0, 16000), (0, 16000), (0, 16000), (0, 16000), (0, 16000),
      (0, 16000), (0, 16000), (1, 2000), (1, 2000), (0, 500), (1, 64), (1, 100), (0, 600), (10, 200),
      (500, 8000), (0, 50), (10, 5000), (0, 7999), (1, 5000), (2, 200), (2, 200), (2, 200), (2, 200),
      (0, 500), (1, 2000), (0, 16000), (1, 64), (0, 3), (0, 255), (0, 3)] : List (Nat × Nat)).getD
        i.val (0, 0)
    r.1 ≤ v ∧ v ≤ r.2 ∧ (i.val = 0 → v = 500 ∨ v = 1000 ∨ v = 2000)) ∧
  (∀ s tag id value, let c := Instr.setParam .pv tag id value
    let u := refreshPort .pv (opened s)
    Answerable s .pv c →
    (s.mode.state ≠ .config → exec c s = .next (closed s (replied .pv tag 0x41#8 .state 0 u))) ∧
    (s.mode.state = .config →
      (40 ≤ id.toNat → exec c s = .next (closed s (replied .pv tag 0x41#8 .range 0 u))) ∧
      (29 ≤ id.toNat → id.toNat ≤ 32 → s.mode.windowLock = true →
        exec c s = .next (closed s (replied .pv tag 0x41#8 .locked 0 u))) ∧
      ∀ i : Fin 40, i.val = id.toNat →
        ¬ (29 ≤ id.toNat ∧ id.toNat ≤ 32 ∧ s.mode.windowLock = true) →
        (paramAdmits i.val value.toNat = false →
          exec c s = .next (closed s (replied .pv tag 0x41#8 .range 0 u))) ∧
        (paramAdmits i.val value.toNat = true →
          ∃ ps : Params, ps.read i = value.toNat ∧ (∀ j, j ≠ i → ps.read j = s.params.read j) ∧
            exec c s = .next (closed s (replied .pv tag 0x41#8 .ok 0
              { u with
                params := ps
                engine := if i.val = 22 then
                    { u.engine with
                      corr := ⟨min u.engine.corr.front (value.toNat : Int),
                        min u.engine.corr.rear (value.toNat : Int)⟩ }
                  else u.engine
                lines := if i.val = 38 then { u.lines with fault := faultLineLevel ps u.faults }
                  else u.lines }))))) ∧
  ∀ s tag id, let u := refreshPort .pv (opened s)
    Answerable s .pv (.readParam .pv tag id) →
    (40 ≤ id.toNat → exec (.readParam .pv tag id) s =
      .next (closed s (replied .pv tag 0x42#8 .range 0 u))) ∧
    ∀ i : Fin 40, i.val = id.toNat → exec (.readParam .pv tag id) s =
      .next (closed s (replied .pv tag 0x42#8 .ok (s.params.read i) u))

/-- WRITE_CELLS that is taken: the k-th value goes to cell start + k × step for k below the count, every
other cell of every map keeps its value, the REPLY is OK and nothing else changes (R45, R46, R47, R48). It
is refused whole, RANGE when any condition of R46 fails, else IN_USE in RUN for a selected map (R47). -/
def Obligations.WriteCellsStoresOrRefusesWhole : Prop :=
  (∀ s tag (m : Fin 4) (st step n : Nat) (v0 v1 v2 v3 : Half),
      let vs := [v0.toNat, v1.toNat, v2.toNat, v3.toNat]
      let c := Instr.writeCells .pv tag (BitVec.ofNat 8 m.val) (BitVec.ofNat 8 st)
        (if step = 1 then 0#8 else 1#8) (BitVec.ofNat 8 n) v0 v1 v2 v3
      (step = 1 ∨ step = 8) → 1 ≤ n → n ≤ 4 → st + (n - 1) * step ≤ 63 →
      (∀ k, k < n → vs.getD k 0 ≤ 1000) →
      ¬ (s.mode.state = .run ∧ (m = s.maps.drive ∨ m = s.maps.regen)) →
      Answerable s .pv c →
      ∃ x : MapStore,
        exec c s = .next (closed s
          (replied .pv tag 0x43#8 .ok 0 { refreshPort .pv (opened s) with maps := x })) ∧
        x.drive = s.maps.drive ∧ x.regen = s.maps.regen ∧
        (∀ k, k < n → (x.map m)[st + k * step]? = some (vs.getD k 0)) ∧
        (∀ i, i < 64 → (∀ k, k < n → i ≠ st + k * step) → (x.map m)[i]? = (s.maps.map m)[i]?) ∧
        ∀ m', m' ≠ m → x.map m' = s.maps.map m') ∧
  (∀ s tag map start step count v0 v1 v2 v3,
      let c := Instr.writeCells .pv tag map start step count v0 v1 v2 v3
      let u := refreshPort .pv (opened s)
      let stride := if step.toNat = 0 then 1 else 8
      let good := map.toNat ≤ 3 ∧ step.toNat ≤ 1 ∧ 1 ≤ count.toNat ∧ count.toNat ≤ 4 ∧
        start.toNat ≤ 63 ∧ start.toNat + (count.toNat - 1) * stride ≤ 63 ∧
        ∀ k, k < count.toNat → [v0.toNat, v1.toNat, v2.toNat, v3.toNat].getD k 0 ≤ 1000
      Answerable s .pv c →
      (¬ good → exec c s = .next (closed s (replied .pv tag 0x43#8 .range 0 u))) ∧
      (good → s.mode.state = .run → (map.toNat = s.maps.drive.val ∨ map.toNat = s.maps.regen.val) →
        exec c s = .next (closed s (replied .pv tag 0x43#8 .inUse 0 u))))

/-- SELECT_MAPS, on PV or on PS with the grant: refused RANGE whole when either index is above 3, else
both selections are set at once in any device state and nothing else changes (R49). -/
def Obligations.SelectMapsSetsBothSelections : Prop :=
  ∀ s p tag drive regen, let c := Instr.selectMaps p tag drive regen
    let u := refreshPort p (opened s)
    permitted s p .selectMaps = true → Answerable s p c →
    (3 < drive.toNat ∨ 3 < regen.toNat →
      exec c s = .next (closed s (replied p tag 0x44#8 .range 0 u))) ∧
    ∀ d r : Fin 4, d.val = drive.toNat → r.val = regen.toNat →
      exec c s = .next (closed s (replied p tag 0x44#8 .ok 0
        { u with maps := { u.maps with drive := d, regen := r } }))

/-- START: refused STATE in RUN or while SHUTOFF is asserted, then CONFIG_INVALID when the consistency
check fails; taken, it enters RUN with the lock set, corrections 0, the START mark for a computation in
flight, every FRESH port's deadline at its window, a STALE port still STALE, a status frame on all four
ports, and every other block as it stood (R9, R89, R153, R154, R155), P_f and P_r with it (log entry 25). A
deadline that was due has expired before it, or, where START is taken before the countdown of that instant, is
counted down after it (R95; log entry 8). -/
def Obligations.StartEntersRun : Prop :=
  (∀ ps, consistent ps = true ↔
    (∀ i j : Fin 8, i.val + 1 = j.val → ps.read (Param.speedBp i) < ps.read (Param.speedBp j) ∧
      ps.read (Param.demandBp i) < ps.read (Param.demandBp j)) ∧
    ps.read Param.stallCap < ps.read Param.stallTorque) ∧
  ∀ s tag, let c := Instr.start .pv tag
    let u := refreshPort .pv (opened s)
    let restarted : Port → Deadline := fun p =>
      let d := u.supervisor.deadlines.get p
      if d.freshness = .stale then d else { d with remaining := s.params.read (windowParam p) }
    Answerable s .pv c →
    (s.mode.state = .run ∨ s.lines.shutoff = true →
      exec c s = .next (closed s (replied .pv tag 0x51#8 .state 0 u))) ∧
    (s.mode.state ≠ .run → s.lines.shutoff = false → consistent s.params = false →
      exec c s = .next (closed s (replied .pv tag 0x51#8 .configInvalid 0 u))) ∧
    (s.mode.state ≠ .run → s.lines.shutoff = false → consistent s.params = true →
      exec c s = .next (closed s (replied .pv tag 0x51#8 .ok 0
        { u with
          mode := ⟨.run, true⟩
          engine := { u.engine with
            corr := ⟨0, 0⟩
            startMark := u.engine.startMark || u.engine.inFlight.isSome }
          supervisor := ⟨true, ⟨restarted .pv, restarted .pf, restarted .pr, restarted .ps⟩⟩
          ports := triggered u.ports })))

/-- STOP: refused STATE in CONFIG, OK without change in HALT; in RUN it takes the part to HALT, empties
the Program Queue and triggers status on all four ports, everything else kept (R156). SHUTOFF: its
assertion in RUN does the same without a REPLY; outside RUN, and at its release, the line's level is all
that changes (R158). -/
def Obligations.StopAndShutoffEnterHalt : Prop :=
  (∀ s tag, let c := Instr.stop .pv tag
      let u := refreshPort .pv (opened s)
      Answerable s .pv c →
      (s.mode.state = .config → exec c s = .next (closed s (replied .pv tag 0x52#8 .state 0 u))) ∧
      (s.mode.state = .halt → exec c s = .next (closed s (replied .pv tag 0x52#8 .ok 0 u))) ∧
      (s.mode.state = .run → exec c s = .next (closed s (replied .pv tag 0x52#8 .ok 0
        { u with
          mode := ⟨.halt, s.mode.windowLock⟩
          queue := ⟨[], .idle, 0, none⟩
          ports := triggered u.ports })))) ∧
  (∀ s, let a := opened s
      (s.lines.reset = false → s.mode.state = .run → exec .shutoffAssert s = .next (closed s
        { a with
          lines := { a.lines with shutoff := true }
          mode := ⟨.halt, s.mode.windowLock⟩
          queue := ⟨[], .idle, 0, none⟩
          ports := triggered a.ports })) ∧
      (s.lines.reset = true ∨ s.mode.state ≠ .run → exec .shutoffAssert s =
        .next (closed s { a with lines := { a.lines with shutoff := true } })) ∧
      exec .shutoffRelease s = .next (closed s { a with lines := { a.lines with shutoff := false } }))

/-- CONFIGURE: refused STATE in RUN, OK without change in CONFIG; in HALT it takes the part to CONFIG,
empties the queue and the table, disarms the supervisor with every port FRESH, returns LINK_V and LINK_S
to CLEAR, keeps every other fault, re-evaluates the FAULT line and triggers status on all four ports
(R93, R110, R141, R157). -/
def Obligations.ConfigureEntersConfig : Prop :=
  ∀ s tag, let c := Instr.configure .pv tag
    let u := refreshPort .pv (opened s)
    let fs := { u.faults with
      linkV := { u.faults.linkV with state := .clear, count := 0 }
      linkS := { u.faults.linkS with state := .clear, count := 0 } }
    Answerable s .pv c →
    (s.mode.state = .run → exec c s = .next (closed s (replied .pv tag 0x53#8 .state 0 u))) ∧
    (s.mode.state = .config → exec c s = .next (closed s (replied .pv tag 0x53#8 .ok 0 u))) ∧
    (s.mode.state = .halt → exec c s = .next (closed s (replied .pv tag 0x53#8 .ok 0
      { u with
        mode := ⟨.config, s.mode.windowLock⟩
        queue := ⟨[], .idle, 0, none⟩
        table := []
        supervisor := Supervisor.disarmed
        faults := fs
        lines := { u.lines with fault := faultLineLevel s.params fs }
        ports := triggered u.ports })))

/-- CLEAR_FAULT of one id: RANGE for an unknown id; a LATCHED fault becomes CLEAR with count 0 when its
condition is absent and stays, answered CONDITION_PRESENT, when it is present; a fault in any other state
is left and answered OK (R146). CLEAR_FAULT of 255: every LATCHED fault whose condition is absent becomes
CLEAR with count 0, every other keeps its record, and the outcome is OK exactly when none remains
LATCHED, CONDITION_PRESENT otherwise (R147). The FAULT line follows (R149). -/
def Obligations.ClearFaultTestsTheCondition : Prop :=
  (∀ s tag id, let c := Instr.clearFault .pv tag id
      let u := refreshPort .pv (opened s)
      Answerable s .pv c → id ≠ 255#8 →
      (7 < id.toNat → exec c s = .next (closed s (replied .pv tag 0x54#8 .range 0 u))) ∧
      ∀ f : FaultId, f.id = id.toNat →
        let fs := u.faults.set f { u.faults.get f with state := .clear, count := 0 }
        ((u.faults.get f).state ≠ .latched →
          exec c s = .next (closed s (replied .pv tag 0x54#8 .ok 0 u))) ∧
        ((u.faults.get f).state = .latched → FaultCondition u f →
          exec c s = .next (closed s (replied .pv tag 0x54#8 .conditionPresent 0 u))) ∧
        ((u.faults.get f).state = .latched → ¬ FaultCondition u f →
          exec c s = .next (closed s (replied .pv tag 0x54#8 .ok 0
            { u with
              faults := fs
              lines := { u.lines with fault := faultLineLevel s.params fs } })))) ∧
  (∀ s tag, let c := Instr.clearFault .pv tag 255#8
      let u := refreshPort .pv (opened s)
      Answerable s .pv c →
      ∃ (fs : PerFault FaultRecord) (code : ReplyCode) (ln : Bool),
        (∀ f, ((u.faults.get f).state = .latched ∧ ¬ FaultCondition u f →
            fs.get f = { u.faults.get f with state := .clear, count := 0 }) ∧
          (¬ ((u.faults.get f).state = .latched ∧ ¬ FaultCondition u f) →
            fs.get f = u.faults.get f)) ∧
        ((∀ f, (fs.get f).state ≠ .latched) → code = .ok) ∧
        ((∃ f, (fs.get f).state = .latched) → code = .conditionPresent) ∧
        ln = (if fs = u.faults then u.lines.fault else faultLineLevel s.params fs) ∧
        exec c s = .next (closed s (replied .pv tag 0x54#8 code 0
          { u with faults := fs, lines := { u.lines with fault := ln } })))

/-- QUEUE_SEGMENT: RANGE, then MISMATCH against the incomplete program, then FULL at 16 segments, then
TOO_LONG, which removes the incomplete program and leaves the complete ones; otherwise the segment is
appended and the program state, head count and start share are kept (R118 to R122). ABORT_PROGRAM, on PV
or on PS with the grant, empties the whole queue in every device state, answered OK (R128). -/
def Obligations.ProgramRequestsChangeTheQueue : Prop :=
  (∀ s tag id shape e target duration (kept tail : List Segment),
      let c := Instr.queueSegment .pv tag id shape e target duration
      let u := refreshPort .pv (opened s)
      let gs := u.queue.segments
      let inRange := 1 ≤ id.toNat ∧ shape.toNat ≤ 1 ∧ target.toNat ≤ 1000 ∧ 1 ≤ duration.toNat ∧
        duration.toNat ≤ 4000
      let fits := ∀ h, tail.head? = some h → h.program = id.toNat
      Answerable s .pv c →
      gs = kept ++ tail → (∀ g ∈ tail, g.last = false) → (∀ g, kept.getLast? = some g → g.last = true) →
      (¬ inRange → exec c s = .next (closed s (replied .pv tag 0x61#8 .range 0 u))) ∧
      (inRange → ¬ fits → exec c s = .next (closed s (replied .pv tag 0x61#8 .mismatch 0 u))) ∧
      (inRange → fits → 16 ≤ gs.length →
        exec c s = .next (closed s (replied .pv tag 0x61#8 .full 0 u))) ∧
      (inRange → fits → gs.length < 16 → 12 ≤ tail.length →
        exec c s = .next (closed s (replied .pv tag 0x61#8 .tooLong 0
          { u with queue := if kept = [] then ⟨[], .idle, 0, none⟩
            else { u.queue with segments := kept } }))) ∧
      (inRange → fits → gs.length < 16 → tail.length < 12 →
        exec c s = .next (closed s (replied .pv tag 0x61#8 .ok 0
          { u with queue := { u.queue with
            segments := gs ++ [⟨id.toNat, target.toNat, duration.toNat,
              if shape.toNat = 0 then .step else .ramp, e != 0#8⟩] } })))) ∧
  (∀ s p tag, permitted s p .abortProgram = true → Answerable s p (.abortProgram p tag) →
      exec (.abortProgram p tag) s = .next (closed s
        (replied p tag 0x62#8 .ok 0 { refreshPort p (opened s) with queue := ⟨[], .idle, 0, none⟩ })))

/-- INTERVENE: RANGE before all else; a passing request replaces the entry of its id or takes a free slot,
with value and lifetime clamped and CLAMPED answered when a clamp changed one; with no entry of its id
and no free slot it is refused FULL. Every other entry keeps its place (R100 to R103). -/
def Obligations.InterveneReplacesOrInserts : Prop :=
  ∀ s tag id kind axle value life,
    let c := Instr.intervene .ps tag id kind axle value life
    let u := refreshPort .ps (opened s)
    let inRange := 1 ≤ id.toNat ∧ kind.toNat ≤ 3 ∧ (kind.toNat = 0 → axle.toNat ≤ 1) ∧ 1 ≤ life.toNat
    let most := if kind.toNat ≤ 1 then 16000 else 1000
    let con : Constraint :=
      if kind.toNat = 0 then .axleCap (if axle.toNat = 0 then .front else .rear)
      else if kind.toNat = 1 then .totalCap
      else if kind.toNat = 2 then .shareFloor else .shareCeil
    let room := s.table.length < 8 ∨ ∃ x ∈ s.table, x.id = id.toNat
    Answerable s .ps c → TableWf s.table →
    (¬ inRange → exec c s = .next (closed s (replied .ps tag 0x71#8 .range 0 u))) ∧
    (inRange → ¬ room → exec c s = .next (closed s (replied .ps tag 0x71#8 .full 0 u))) ∧
    (inRange → room → ∃ tb,
      exec c s = .next (closed s (replied .ps tag 0x71#8
        (if most < value.toNat ∨ 1000 < life.toNat then .clamped else .ok) 0 { u with table := tb })) ∧
      ∀ x, x ∈ tb ↔ (x = ⟨id.toNat, con, min value.toNat most, min life.toNat 1000⟩ ∨
        (x ∈ s.table ∧ x.id ≠ id.toNat)))

/-- RELEASE: id 0 removes every entry and is answered OK; another id removes its entry, OK, or answers
NOT_FOUND and changes nothing; every other entry stays (R108, R109). -/
def Obligations.ReleaseRemovesItsEntry : Prop :=
  ∀ s tag id, let c := Instr.release .ps tag id
    let u := refreshPort .ps (opened s)
    Answerable s .ps c →
    (id = 0#8 → exec c s = .next (closed s (replied .ps tag 0x72#8 .ok 0 { u with table := [] }))) ∧
    (id ≠ 0#8 → (∀ x ∈ s.table, x.id ≠ id.toNat) →
      exec c s = .next (closed s (replied .ps tag 0x72#8 .notFound 0 u))) ∧
    (id ≠ 0#8 → (∃ x ∈ s.table, x.id = id.toNat) →
      ∃ tb, exec c s = .next (closed s (replied .ps tag 0x72#8 .ok 0 { u with table := tb })) ∧
        ∀ x, x ∈ tb ↔ (x ∈ s.table ∧ x.id ≠ id.toNat))

/-! Lines and time. -/

/-- LIFETIME_EXPIRY: every entry's remaining lifetime decreases by 1, the entries that reach 0 are
removed, and nothing else changes (R105). -/
def Obligations.LifetimeExpiryAgesTheTable : Prop :=
  ∀ s, s.lines.reset = false →
    ∃ tb, exec .lifetimeExpiry s = .next (closed s { opened s with table := tb }) ∧
      ∀ x, x ∈ tb ↔ ∃ y ∈ s.table, 1 < y.lifetime ∧ x = { y with lifetime := y.lifetime - 1 }

/-- The expiry of a deadline that is due (armed, FRESH, no period remaining): the port is STALE; its link
fault, unless in force already, enters ACTIVE (PV, PS) or LATCHED (PF, PR), marks every port, triggers status
on all four, moves the FAULT line, and, but for PS, aborts the Program Queue; every other port's deadline and
fault is kept (R90, R140, R144, R145). Each port's expiry that is due is taken before a command's effect
(R90, R95). DEADLINE_EXPIRY takes the expiry of a deadline with one period remaining ahead of its countdown,
where the countdown of the instant is yet to come; otherwise it changes nothing more (log entry 8). -/
def Obligations.DeadlineExpiryMakesThePortStale : Prop :=
  ∀ (p : Port),
    let f := linkFault p
    let pass : State → Bool → State := fun x ahead =>
      let stale : Supervisor := { x.supervisor with
        deadlines := x.supervisor.deadlines.set p ⟨.stale, 0, ahead⟩ }
      let fs := x.faults.set f
        { x.faults.get f with state := if p = .pv ∨ p = .ps then .active else .latched }
      if (x.faults.get f).state = .active ∨ (x.faults.get f).state = .latched then
        { x with supervisor := stale }
      else { x with
        supervisor := stale
        faults := fs
        queue := if p = .ps then x.queue else ⟨[], .idle, 0, none⟩
        lines := { x.lines with fault := faultLineLevel x.params fs }
        ports := entered f x.ports }
    (∀ x : State, let d := x.supervisor.deadlines.get p
      (x.supervisor.armed = true ∧ d.freshness = .fresh ∧ d.remaining = 0 →
        settleDeadline p x = pass x false) ∧
      (¬ (x.supervisor.armed = true ∧ d.freshness = .fresh ∧ d.remaining = 0) →
        settleDeadline p x = x)) ∧
    (∀ s, deadlineDue (settleDeadlines s) p = false ∧
      ((settleDeadlines s).supervisor.deadlines.get p).freshness =
        (if deadlineDue s p = true then .stale else (s.supervisor.deadlines.get p).freshness)) ∧
    ∀ s, s.lines.reset = false →
      let a := opened s
      let d := a.supervisor.deadlines.get p
      let ahead := a.supervisor.armed = true ∧ d.freshness = .fresh ∧ d.remaining = 1 ∧
        d.countedAhead = false ∧ a.instant.counted = false
      (ahead → exec (.deadlineExpiry p) s = .next (closed s (pass a true))) ∧
      (¬ ahead → exec (.deadlineExpiry p) s = .next (closed s a))

/-- PERIOD_EXPIRY: the next interval has the length PERIOD_US gives (R1, R2); a computation starts that holds
every input as it stands, the Program Queue becoming RUNNING exactly when it is IDLE with a complete head
program in RUN with propulsion ON and LINK_V not active (R3, R4, R18, R123); every armed FRESH deadline counts
down by 1, those at 0 being due (R90). Nothing else changes. The start and the countdown are two blocks'
events: in the order firstNow the countdown is left for after the next command, in secondNow the start is
(R90, R95; log entry 23). A deadline expiry taken ahead is not counted again (log entry 8); a computation
still in flight completes first (log entry 9); a deadline that was due has expired first (log entry 24). -/
def Obligations.PeriodExpiryStartsAComputation : Prop :=
  let start : State → State := fun y =>
    let q : ProgramQueue := if y.queue.state = .idle ∧ (∃ g ∈ y.queue.segments, g.last = true) ∧
        y.mode.state = .run ∧ y.demand.propulsion = true ∧ (y.faults.get .linkV).state ≠ .active then
      ⟨y.queue.segments, .running, 0, none⟩ else y.queue
    { y with
      queue := q
      engine := { y.engine with
        inFlight := some
          { mode := y.mode.state
            demand := y.demand
            axles := y.axles
            reference := y.reference
            driveCells := y.maps.map y.maps.drive
            regenCells := y.maps.map y.maps.regen
            constraints := y.table.map fun e => (e.constraint, e.value)
            program := match q.state, q.segments with
              | .running, g :: _ => some ⟨g, q.headCount, q.startShare⟩
              | .running, [] => none
              | .idle, _ => none
            faults := ⟨y.faults.linkV.state, y.faults.linkF.state, y.faults.linkR.state,
              y.faults.linkS.state, y.faults.stallF.state, y.faults.stallR.state,
              y.faults.slipF.state, y.faults.slipR.state⟩
            stallAction := ⟨(y.params.read Param.actionMask).testBit 0,
              (y.params.read Param.actionMask).testBit 1⟩
            params := y.params
            corr := y.engine.corr
            prev := y.engine.prev
            holdCount := y.engine.holdCount
            heldValue := y.engine.heldValue } } }
  let counted : Deadline → Deadline := fun d =>
    if d.countedAhead = true then { d with countedAhead := false }
    else if d.freshness = .fresh then { d with remaining := d.remaining - 1 } else d
  let count : State → State := fun y => { y with
    instant := { y.instant with counted := true }
    supervisor := if y.supervisor.armed = true then
        { y.supervisor with deadlines :=
          ⟨counted y.supervisor.deadlines.pv, counted y.supervisor.deadlines.pf,
            counted y.supervisor.deadlines.pr, counted y.supervisor.deadlines.ps⟩ }
      else y.supervisor }
  (∀ s, s.lines.reset = false →
    let a := opened s
    let b := completeInFlight a
    let i : State := { b with
      engine := { b.engine with interval := some (s.params.read Param.periodUs) } }
    (a.engine.inFlight = none → b = a) ∧
      ((timingOf s).order = .whole → exec .periodExpiry s = .next (closed s (count (start i)))) ∧
      ((timingOf s).order = .firstNow → exec .periodExpiry s =
        .next (closed s (leave .countdown (start i)))) ∧
      ((timingOf s).order = .secondNow → exec .periodExpiry s =
        .next (closed s (leave .computationStart (count i))))) ∧
  ∀ x : State, x.lines.reset = false → finish (some .computationStart) x = start x ∧
    finish (some .countdown) x = count x

/-- COMPLETION: the mode at completion gates the sent commands; the period number advances by 1, wrapping;
corrections, P_f, P_r, hold state and the whole Split Record are replaced; the observed faults take
their observations; the input records, the table, the maps, the parameters, the supervisor, the mode and
the link faults are kept (R6, R8, R9, R10, R12, R16, R17, R60, R136 to R138); a FAULT line that stood at the
level its inputs give stands there again (R149). The slip observation tests the smaller of CORR_MAX at the
start and CORR_MAX at the completion (R17, R60, R161; log entry 11). A computation that started in RUN sends
its commands when RUN is the mode at completion, whatever lay between (R6; log entry 26). With no computation
in flight none completes (log entry 6). -/
def Obligations.CompletionPublishesTheComputation : Prop :=
  ∀ s, s.lines.reset = false →
    let a := opened s
    let t := completeInFlight a
    exec .completion s = .next (closed s t) ∧
    (a.engine.inFlight = none → t = a) ∧
    ∀ x, a.engine.inFlight = some x →
      let r := computeSplit x
      let sent := if s.mode.state = .run then r.command else ⟨0, 0⟩
      let written : Int → Int := fun v =>
        if a.engine.startMark = true then 0 else min v (s.params.read Param.corrMax : Int)
      let corr : PerAxle Int := ⟨written r.corr.front, written r.corr.rear⟩
      let stall : Axle → Bool := fun ax =>
        decide ((x.params.read Param.stallTorque : Int) ≤ mag (sent.get ax) ∧
          mag ((x.axles.get ax).speed) ≤ (x.params.read Param.stallSpeed : Int))
      let slip : Axle → Bool := fun ax =>
        decide (corr.get ax =
          (min (x.params.read Param.corrMax) (s.params.read Param.corrMax) : Nat))
      t = { a with
        lines := { a.lines with fault := t.lines.fault }
        queue := t.queue
        faults := t.faults
        engine := t.engine
        commands := t.commands
        ports := t.ports } ∧
      t.engine = { a.engine with
        inFlight := none
        startMark := false
        periodNumber := a.engine.periodNumber + 1#16
        corr := corr
        prev := sent
        holdCount := r.holdCount
        heldValue := r.heldValue
        record :=
          { periodNumber := a.engine.periodNumber + 1#16
            dUsed := r.dUsed
            totalCap := r.totalCap
            source := r.source
            sBase := r.sBase
            corr := corr
            sFinal := r.sFinal
            limit := r.limit
            request := r.request
            sent := sent
            shortfall := r.shortfall
            flags := { r.flags with idle := r.flags.idle || decide (s.mode.state ≠ .run) } } } ∧
      (∀ p, t.faults.get (linkFault p) = a.faults.get (linkFault p)) ∧
      (∀ ax, t.faults.get (axleStall ax) = observedRecord .latched
        (s.params.read Param.stallWindow) (stall ax) (a.faults.get (axleStall ax))) ∧
      (∀ ax, t.faults.get (axleSlip ax) = observedRecord .active
        (s.params.read Param.slipQual) (slip ax) (a.faults.get (axleSlip ax))) ∧
      (a.lines.fault = faultLineLevel a.params a.faults →
        t.lines.fault = faultLineLevel t.params t.faults)

/-- What COMPLETION leaves in the slots. Both AXLE_CMD frames stand in the command slots, in place of any
frame there (R14, R15, R175). On all four ports a status frame is triggered exactly when the new period number
is a multiple of STATUS_DIV as read at the start (R19) or a stall or slip fault enters, whose id is then
marked there (R145); a port keeps everything else. At an instant of its own the frames begin at once on idle
lines: the AXLE_CMD on PF and PR, and on PV and PS the STATUS composed from the state the completion leaves
(R176, R177; log entry 10). -/
def Obligations.CompletionSendsAxleCommands : Prop :=
  ∀ s x, s.lines.reset = false → (opened s).engine.inFlight = some x →
    let a := opened s
    let t := completeInFlight a
    let r := t.engine.record
    let enters : FaultId → Bool := fun f =>
      !(a.faults.get f).state.inForce && (t.faults.get f).state.inForce
    let command : Axle → AxleCmd := fun ax =>
      { torque := r.sent.get ax
        periodNumber := t.engine.periodNumber
        mode := s.mode.state
        available := available x ax
        flags := r.flags
        limit := r.limit.get ax }
    let trigger := decide (t.engine.periodNumber.toNat % x.params.read Param.statusDiv = 0) ||
      allFaults.any enters
    exec .completion s = .next (closed s t) ∧
    t.commands = ⟨some (command .front), some (command .rear)⟩ ∧
    (∀ p, t.port p = { a.port p with
        statusWaiting := (a.port p).statusWaiting || trigger
        sticky := { (a.port p).sticky with faults := (t.port p).sticky.faults } } ∧
      ∀ f, (t.port p).sticky.faults.get f = ((a.port p).sticky.faults.get f || enters f)) ∧
    (Settled s → Alone s → ∃ v, exec .completion s = .next v ∧ v = startTransmitters t ∧
      (∀ p ax, portAxle p = some ax → (s.port p).sending = none →
        (v.port p).sending = some ⟨.command, (command ax).bytes⟩ ∧ v.commands.get ax = none) ∧
      ∀ p, portAxle p = none → (s.port p).sending = none → trigger = true →
        v.port p = { t.port p with
          statusWaiting := false
          sending := some ⟨.status, statusBytes t p⟩
          sticky := StickySet.empty })

/-- The segment-advance notice at a COMPLETION: an IDLE queue, or a computation whose share came from the
map, leaves the queue as it is (but for aborts, which a completion does not send); a RUNNING queue counts
the computation against its head segment and at the segment's last computation removes it, ending the
program at END and otherwise handing the share on as the next start share (R18, R126). -/
def Obligations.CompletionAdvancesTheSegment : Prop :=
  ∀ s x, s.lines.reset = false → (opened s).engine.inFlight = some x →
    let r := computeSplit x
    let a := opened s
    let t := completeInFlight a
    exec .completion s = .next (closed s t) ∧
      (x.program = none ∨ a.queue.state = .idle → t.queue = a.queue) ∧
      ∀ pr g rest, x.program = some pr → a.queue.state = .running → a.queue.segments = g :: rest →
        (a.queue.headCount + 1 < g.duration → t.queue =
          { a.queue with
            headCount := a.queue.headCount + 1
            startShare := some (a.queue.startShare.getD (pr.startShare.getD r.sMap)) }) ∧
        (g.duration ≤ a.queue.headCount + 1 → g.last = false →
          t.queue = ⟨rest, .running, 0, some r.sBase⟩) ∧
        (g.duration ≤ a.queue.headCount + 1 → g.last = true → t.queue = ⟨rest, .idle, 0, none⟩)

/-! The arithmetic of the computation. -/

/-- The demand stage: the four cases of R20, the hold and decay of R21, and the total cap of R22, which
bounds D_used in magnitude and keeps the sign of D0. -/
def Obligations.DemandStageFollowsItsCases : Prop :=
  ∀ x : Inputs, let d := computeSplit x
    let v := x.faults.linkV = .active
    let n := min (x.holdCount + 1) 65535
    let h := if n ≤ x.params.read Param.holdV then x.demand.torque
      else if 0 ≤ x.heldValue then max 0 (x.heldValue - (x.params.read Param.decayV : Int))
      else min 0 (x.heldValue + (x.params.read Param.decayV : Int))
    let d0 := if x.mode ≠ .run ∨ x.demand.propulsion = false then 0
      else if v then h else x.demand.torque
    let caps := (x.constraints.filter (fun e => e.1 == .totalCap)).map (·.2) ++
      (if x.faults.linkS = .active then [x.params.read Param.limpCap] else [])
    (¬ v → d.holdCount = 0 ∧ d.heldValue = x.demand.torque) ∧
    (v → x.mode = .run → x.demand.propulsion = true → d.holdCount = n ∧ d.heldValue = h) ∧
    (v → (x.mode ≠ .run ∨ x.demand.propulsion = false) →
      d.holdCount = x.holdCount ∧ d.heldValue = x.heldValue) ∧
    (d.flags.idle = true ↔ x.mode ≠ .run) ∧
    (d.flags.held = true ↔ v ∧ x.mode = .run ∧ x.demand.propulsion = true) ∧
    (caps = [] → d.totalCap = none ∧ d.dUsed = d0 ∧ d.flags.totalCapped = false) ∧
    (caps ≠ [] → ∃ m ∈ caps, (∀ m' ∈ caps, m ≤ m') ∧ d.totalCap = some (m : Int) ∧
      mag d.dUsed = min (mag d0) m ∧ (d.dUsed = 0 ∨ d.dUsed.sign = d0.sign) ∧
      (d.flags.totalCapped = true ↔ (m : Int) < mag d0))

/-- The reference speed: the Reference Record's when present, valid and LINK_S not active; otherwise the
speed of the available axle for which σ′ × v is least, 0 when there is none (R23, R24, R25). -/
def Obligations.ReferenceSelectionFollowsItsRule : Prop :=
  ∀ (x : Inputs) (d : Int), let usable := x.reference.present = true ∧ x.reference.valid = true ∧
      x.faults.linkS ≠ .active
    let sgn : Int := if d < 0 then -1 else 1
    let v := referenceSpeed x d
    (usable → v = x.reference.speed) ∧
    (¬ usable → (∀ a, available x a = false) → v = 0) ∧
    (¬ usable → ∀ a, available x a = true →
      (∃ b, available x b = true ∧ v = (x.axles.get b).speed) ∧
      sgn * v ≤ sgn * (x.axles.get a).speed) ∧
    ((computeSplit x).flags.fallbackRef = true ↔ ¬ usable) ∧
    ∀ a, available x a = true ↔ (x.axles.get a).state = .reporting ∧ (x.axles.get a).ready = true ∧
      x.faults.get (axleLink a) ≠ .latched

/-- The slip governor: the slip ratio is trunc(1000 × (v − v_ref) / max(|v_ref|, V_FLOOR)) held to
−2000..+2000 (R55); an unavailable axle or D_used = 0 lowers the correction by K_DN to 0 at least; a
directed slip above S_TGT raises it by its step to CORR_MAX at most (R57, R58, R59); a correction left alone
returns to 0 after trunc((c + K_DN − 1) / K_DN) computations; and these are the corrections of a computation,
at its reference speed. -/
def Obligations.SlipGovernorRaisesAndDecays : Prop :=
  (∀ (v vr : Int) (vf : Nat), let q := (1000 * (v - vr)).tdiv (max (mag vr) (vf : Int))
    slipRatio v vr vf = if q < -2000 then -2000 else if 2000 < q then 2000 else q) ∧
  (∀ (x : Inputs) a d vr, (available x a = false ∨ d = 0) →
    governedCorr x a d vr = max 0 (x.corr.get a - (x.params.read Param.kDn : Int))) ∧
  (∀ (x : Inputs) a d vr, available x a = true → d ≠ 0 →
    let slip := slipRatio (x.axles.get a).speed vr (x.params.read Param.vFloor)
    let e := if 0 < d then slip else -slip
    let tgt := (x.params.read Param.sTgt : Int)
    (e ≤ tgt → governedCorr x a d vr = max 0 (x.corr.get a - (x.params.read Param.kDn : Int))) ∧
    (tgt < e → governedCorr x a d vr = min (x.params.read Param.corrMax : Int)
      (x.corr.get a + max 1 (((x.params.read Param.kUp : Int) * (e - tgt)) / 16)))) ∧
  (∀ (ps : Params) (e : Int) (c : Nat), e ≤ (ps.read Param.sTgt : Int) → 1 ≤ ps.read Param.kDn →
    Nat.repeat (fun y => governed ps y e)
      ((c + ps.read Param.kDn - 1) / ps.read Param.kDn) (c : Int) = 0) ∧
  ∀ (x : Inputs) a, let r := computeSplit x
    r.corr.get a = governedCorr x a r.dUsed (referenceSpeed x r.dUsed)

/-- The interpolation: the index is the largest whose breakpoint is at most the value, the fraction of 256
between it and the next, 0 at the ends (R27); the map share is formed in three blends (R28), lies between the
smallest and the largest of the four cells used, and is exactly the cell of row i and column j at the
breakpoints i and j of strictly ascending axes (R28, R44). A computation's map share reads the drive map for
D_used ≥ 0 and the regen map below, at the magnitudes of its reference speed and of D_used (R26). -/
def Obligations.InterpolationStaysBetweenItsCells : Prop :=
  (∀ (bps : List Nat) (v : Nat), let i := (axisPosition bps v).1
    let f := (axisPosition bps v).2
    f ≤ 255 ∧ i ≤ 7 ∧ (∀ k, k ≤ 7 → bps.getD k 0 ≤ v → k ≤ i) ∧
    ((∃ k, k ≤ 7 ∧ bps.getD k 0 ≤ v) → bps.getD i 0 ≤ v ∧
      (i < 7 → f = (v - bps.getD i 0) * 256 / (bps.getD (i + 1) 0 - bps.getD i 0))) ∧
    ((∀ k, k ≤ 7 → v < bps.getD k 0) → i = 0 ∧ f = 0) ∧ (i = 7 → f = 0)) ∧
  (∀ ps cells sp dm,
    let i := (axisPosition (speedBps ps) sp).1
    let fx : Int := (axisPosition (speedBps ps) sp).2
    let j := (axisPosition (demandBps ps) dm).1
    let fy : Int := (axisPosition (demandBps ps) dm).2
    let i' := min (i + 1) 7
    let j' := min (j + 1) 7
    let a := cellAt cells i j + ((cellAt cells i' j - cellAt cells i j) * fx).tdiv 256
    let b := cellAt cells i j' + ((cellAt cells i' j' - cellAt cells i j') * fx).tdiv 256
    interpolate ps cells sp dm = a + ((b - a) * fy).tdiv 256) ∧
  (∀ ps cells sp dm (lo hi : Int),
    let i := (axisPosition (speedBps ps) sp).1
    let j := (axisPosition (demandBps ps) dm).1
    (∀ a b, (a = i ∨ a = min (i + 1) 7) → (b = j ∨ b = min (j + 1) 7) →
      lo ≤ cellAt cells a b ∧ cellAt cells a b ≤ hi) →
    lo ≤ interpolate ps cells sp dm ∧ interpolate ps cells sp dm ≤ hi) ∧
  (∀ (ps : Params) cells (i j : Fin 8),
    (∀ a b : Fin 8, a < b → ps.read (Param.speedBp a) < ps.read (Param.speedBp b)) →
    (∀ a b : Fin 8, a < b → ps.read (Param.demandBp a) < ps.read (Param.demandBp b)) →
    interpolate ps cells (ps.read (Param.speedBp i)) (ps.read (Param.demandBp j)) =
      cellAt cells i.val j.val) ∧
  ∀ x : Inputs, let r := computeSplit x
    r.sMap = interpolate x.params (if r.dUsed < 0 then x.regenCells else x.driveCells)
      (referenceSpeed x r.dUsed).natAbs r.dUsed.natAbs

/-- A program's share: STEP gives the target; RAMP gives s0 + trunc((target − s0) × e / duration), which lies
between the start share and the target and is exactly the target at the segment's last computation (R124). The
base share of a computation is the share of the running program's head segment, at its count plus 1 and from
its start share, or the map share where that is absent, with source PROGRAM and flag PROGRAM set; with no
program running it is the map share, with source MAP (R26, R124). -/
def Obligations.ProgramShareReachesItsTarget : Prop :=
  (∀ (g : Segment) (s0 : Int) (e : Nat), 1 ≤ e → e ≤ g.duration →
    (g.shape = .step → segmentShare g s0 e = g.target) ∧
    (g.shape = .ramp →
      segmentShare g s0 e = s0 + (((g.target : Int) - s0) * e).tdiv g.duration ∧
      min s0 g.target ≤ segmentShare g s0 e ∧
      segmentShare g s0 e ≤ max s0 g.target ∧ (e = g.duration → segmentShare g s0 e = g.target))) ∧
  ∀ x : Inputs, let r := computeSplit x
    (x.program = none → r.sBase = r.sMap ∧ r.source = .map ∧ r.flags.program = false) ∧
    ∀ pr, x.program = some pr →
      r.sBase = segmentShare pr.segment (pr.startShare.getD r.sMap) (pr.count + 1) ∧
      r.source = .program ∧ r.flags.program = true

/-- The share composition: the corrected share clamped to 0..1000, then the floor, then the ceiling, which
wins; CONFLICT is set exactly when the floor is above the ceiling; s_final lies in 0..1000, and so do the
ceiling and, with every floor entry at most 1000, the floor (R30, R31). -/
def Obligations.ShareCompositionBoundsTheShare : Prop :=
  ∀ x : Inputs, let r := computeSplit x
    let s1 := max 0 (min 1000 (r.sBase - r.corr.rear + r.corr.front))
    ∃ fl ce : Nat,
      (∀ e ∈ x.constraints, e.1 = .shareFloor → e.2 ≤ fl) ∧
      (fl = 0 ∨ (Constraint.shareFloor, fl) ∈ x.constraints) ∧
      ((∀ e ∈ x.constraints, e.1 = .shareFloor → e.2 ≤ 1000) → fl ≤ 1000) ∧
      (∀ e ∈ x.constraints, e.1 = .shareCeil → ce ≤ e.2) ∧ ce ≤ 1000 ∧
      (ce = 1000 ∨ (Constraint.shareCeil, ce) ∈ x.constraints) ∧
      r.sFinal = min (max s1 (fl : Int)) (ce : Int) ∧
      (r.flags.conflict = true ↔ ce < fl) ∧ 0 ≤ r.sFinal ∧ r.sFinal ≤ 1000

/-- The axle limits: 0 for an unavailable axle; otherwise the smallest of the reported limit in the
demand's direction, every AXLE_CAP of that axle, and STALL_CAP while the axle's stall fault is LATCHED
with its action enabled (R32, R33). These are the limits of a computation, at its D_used. -/
def Obligations.AxleLimitIsTheSmallestBound : Prop :=
  (∀ (x : Inputs) (a : Axle) (d : Int),
    let base := if d < 0 then (x.axles.get a).regenMax else (x.axles.get a).driveMax
    let caps := x.faults.get (axleStall a) = .latched ∧ x.stallAction.get a = true
    (available x a = false → axleLimit x a d = 0) ∧
    axleLimit x a d ≤ base ∧
    (∀ v, (Constraint.axleCap a, v) ∈ x.constraints → axleLimit x a d ≤ v) ∧
    (caps → axleLimit x a d ≤ x.params.read Param.stallCap) ∧
    (available x a = true → axleLimit x a d = base ∨
      (Constraint.axleCap a, axleLimit x a d) ∈ x.constraints ∨
      (caps ∧ axleLimit x a d = x.params.read Param.stallCap))) ∧
  ∀ (x : Inputs) (a : Axle), let r := computeSplit x
    r.limit.get a = (axleLimit x a r.dUsed : Int) ∧ r.available.get a = available x a

/-- The split loses no torque to rounding and keeps the sign of D_used, symmetrically in sign (R34). -/
def Obligations.SplitLosesNoTorque : Prop :=
  ∀ d s : Int, 0 ≤ s → s ≤ 1000 →
    rearPart d s = (d * s).tdiv 1000 ∧ rearPart d s + frontPart d s = d ∧
    mag (rearPart d s) ≤ mag d ∧
    (rearPart d s = 0 ∨ (rearPart d s).sign = d.sign) ∧
    (frontPart d s = 0 ∨ (frontPart d s).sign = d.sign) ∧
    mag (rearPart d s) + mag (frontPart d s) = mag d ∧
    rearPart (-d) s = -(rearPart d s) ∧ frontPart (-d) s = -(frontPart d s)

/-- Clamp and redistribution: each part is clamped to its axle's limit, its excess is offered once to the
other axle's headroom, both offers from the clamped values; the requested torques carry σ; an axle with
excess has no headroom; what neither took is the shortfall, in 0..16000 (R35); the stage's flags, a
saturated axle being requested its limit, and none set with D_used = 0 (R37). -/
def Obligations.RedistributionFollowsTheClamp : Prop :=
  (∀ x : Inputs, let r := computeSplit x
      let r0 := rearPart r.dUsed r.sFinal
      let f0 := frontPart r.dUsed r.sFinal
      let rc := min (mag r0) r.limit.rear
      let fc := min (mag f0) r.limit.front
      let er := mag r0 - rc
      let ef := mag f0 - fc
      let fc' := fc + min er (r.limit.front - fc)
      let rc' := rc + min ef (r.limit.rear - rc)
      r.request.front = r.dUsed.sign * fc' ∧ r.request.rear = r.dUsed.sign * rc' ∧
      fc' ≤ r.limit.front ∧ rc' ≤ r.limit.rear ∧
      (0 < er → r.limit.rear - rc = 0) ∧ (0 < ef → r.limit.front - fc = 0) ∧
      (0 < er → 0 < ef → fc' = fc ∧ rc' = rc) ∧
      r.shortfall = mag r.dUsed - fc' - rc' ∧ 0 ≤ r.shortfall ∧
      (mag r.dUsed ≤ 16000 → r.shortfall ≤ 16000)) ∧
  (∀ x : Inputs, let r := computeSplit x
      let r0 := rearPart r.dUsed r.sFinal
      let f0 := frontPart r.dUsed r.sFinal
      (r.flags.satF = true ↔ f0 ≠ 0 ∧ r.limit.front ≤ mag f0) ∧
      (r.flags.satR = true ↔ r0 ≠ 0 ∧ r.limit.rear ≤ mag r0) ∧
      (r.flags.redist = true ↔ min (mag f0) r.limit.front < mag r.request.front ∨
        min (mag r0) r.limit.rear < mag r.request.rear) ∧
      (r.flags.shortfall = true ↔ mag r.request.front + mag r.request.rear < mag r.dUsed) ∧
      r.shortfall = mag r.dUsed - mag r.request.front - mag r.request.rear ∧
      (r.flags.satF = true → mag r.request.front = r.limit.front) ∧
      (r.flags.satR = true → mag r.request.rear = r.limit.rear) ∧
      (r.dUsed = 0 → r.flags.satF = false ∧ r.flags.satR = false ∧ r.flags.redist = false ∧
        r.flags.shortfall = false))

/-- The requested torques of every computation stay within the limits, within |D_used| together, and on
D_used's side; an unavailable axle has limit 0 and is requested 0, and its whole part is offered to the
available axle (R36). -/
def Obligations.RequestedTorquesStayWithinLimits : Prop :=
  ∀ x : Inputs, let r := computeSplit x
    let fPart := mag (frontPart r.dUsed r.sFinal)
    let rPart := mag (rearPart r.dUsed r.sFinal)
    mag r.request.front ≤ r.limit.front ∧ mag r.request.rear ≤ r.limit.rear ∧
    mag r.request.front + mag r.request.rear ≤ mag r.dUsed ∧
    (∀ a, r.request.get a = 0 ∨ (r.request.get a).sign = r.dUsed.sign) ∧
    (available x .front = false → r.limit.front = 0 ∧ r.request.front = 0 ∧
      mag r.request.rear = min rPart r.limit.rear + min fPart (r.limit.rear - min rPart r.limit.rear)) ∧
    (available x .rear = false → r.limit.rear = 0 ∧ r.request.rear = 0 ∧
      mag r.request.front =
        min fPart r.limit.front + min rPart (r.limit.front - min fPart r.limit.front))

/-- The rate limit: against a previous command of the same nonzero sign the magnitude rises by at most
RISE_a, otherwise from 0; held back, the command has the request's sign and the bound's magnitude and
RATE_a is set; a request within the bound, any fall among them, passes at once (R38, R39); magnitude and
sign never exceed the request's (R40). -/
def Obligations.RateLimitBoundsTheRise : Prop :=
  (∀ (rise : Nat) (prev req : Int), let cmd := rateLimited rise prev req
    let most : Int :=
      if prev ≠ 0 ∧ prev.sign = req.sign then mag prev + (rise : Int) else (rise : Int)
    (most < mag req → mag cmd = most ∧ (cmd.sign = req.sign ∨ most = 0) ∧
      riseHeld rise prev req = true) ∧
    (mag req ≤ most → cmd = req ∧ riseHeld rise prev req = false) ∧
    (prev.sign = req.sign → mag req ≤ mag prev → cmd = req) ∧
    mag cmd ≤ mag req ∧ (cmd = 0 ∨ cmd.sign = req.sign)) ∧
  ∀ x : Inputs, let r := computeSplit x
    r.command.front = rateLimited (x.params.read Param.riseF) x.prev.front r.request.front ∧
    r.command.rear = rateLimited (x.params.read Param.riseR) x.prev.rear r.request.rear ∧
    r.flags.rateF = riseHeld (x.params.read Param.riseF) x.prev.front r.request.front ∧
    r.flags.rateR = riseHeld (x.params.read Param.riseR) x.prev.rear r.request.rear
end

