-- ==== Sys2Proof/Laws/Indexed.lean ====
section
/-! SUPPORT. Reading back what was set, for the per-axle, per-port and per-fault structures and for the
parameters. -/
namespace Sys2Proof.Machine

variable {α : Type}

@[simp] theorem PerAxle.get_set (x : PerAxle α) (a b : Axle) (v : α) :
    (x.set a v).get b = if b = a then v else x.get b := by
  cases a <;> cases b <;> rfl

@[simp] theorem PerPort.get_set (x : PerPort α) (p q : Port) (v : α) :
    (x.set p v).get q = if q = p then v else x.get q := by
  cases p <;> cases q <;> rfl

@[simp] theorem PerPort.get_map {β : Type} (f : α → β) (x : PerPort α) (p : Port) :
    (x.map f).get p = f (x.get p) := by
  cases p <;> rfl

@[simp] theorem PerFault.get_set (x : PerFault α) (f g : FaultId) (v : α) :
    (x.set f v).get g = if g = f then v else x.get g := by
  cases f <;> cases g <;> rfl

@[simp] theorem PerFault.get_map {β : Type} (h : α → β) (x : PerFault α) (f : FaultId) :
    (x.map h).get f = h (x.get f) := by
  cases f <;> rfl

theorem PerAxle.ext_get {x y : PerAxle α} (h : ∀ a, x.get a = y.get a) : x = y := by
  have hf := h .front
  have hr := h .rear
  cases x
  cases y
  simp_all [PerAxle.get]

theorem PerPort.ext_get {x y : PerPort α} (h : ∀ p, x.get p = y.get p) : x = y := by
  have h1 := h .pv
  have h2 := h .pf
  have h3 := h .pr
  have h4 := h .ps
  cases x
  cases y
  simp_all [PerPort.get]

theorem PerFault.ext_get {x y : PerFault α} (h : ∀ f, x.get f = y.get f) : x = y := by
  have h1 := h .linkV
  have h2 := h .linkF
  have h3 := h .linkR
  have h4 := h .linkS
  have h5 := h .stallF
  have h6 := h .stallR
  have h7 := h .slipF
  have h8 := h .slipR
  cases x
  cases y
  simp_all [PerFault.get]

@[simp] theorem Params.read_write (ps : Params) (i j : Fin 40) (v : Nat) :
    (ps.write i v).read j = if j = i then v else ps.read j := by
  unfold Params.write Params.read
  rw [Vector.getElem_set]
  simp only [Fin.ext_iff, eq_comm]

@[simp] theorem MapStore.map_setMap (x : MapStore) (m n : Fin 4) (v : Vector Nat 64) :
    (x.setMap m v).map n = if n = m then v else x.map n := by
  unfold MapStore.setMap MapStore.map
  simp only [Vector.getElem_set, Fin.ext_iff, eq_comm]

@[simp] theorem MapStore.drive_setMap (x : MapStore) (m : Fin 4) (v : Vector Nat 64) :
    (x.setMap m v).drive = x.drive := rfl

@[simp] theorem MapStore.regen_setMap (x : MapStore) (m : Fin 4) (v : Vector Nat 64) :
    (x.setMap m v).regen = x.regen := rfl

end Sys2Proof.Machine
end

