-- ==== Sys2Proof/Laws/State.lean ====
section
/-! SUPPORT. One lemma per field per update of State, true by definition, so that no proof unfolds a
record update. -/
namespace Sys2Proof.Machine

@[simp] theorem State.withLines_lines (s : State) (x : Lines) : (s.withLines x).lines = x := rfl
@[simp] theorem State.withLines_mode (s : State) (x : Lines) : (s.withLines x).mode = s.mode := rfl
@[simp] theorem State.withLines_params (s : State) (x : Lines) :
    (s.withLines x).params = s.params := rfl
@[simp] theorem State.withLines_maps (s : State) (x : Lines) : (s.withLines x).maps = s.maps := rfl
@[simp] theorem State.withLines_demand (s : State) (x : Lines) :
    (s.withLines x).demand = s.demand := rfl
@[simp] theorem State.withLines_axles (s : State) (x : Lines) :
    (s.withLines x).axles = s.axles := rfl
@[simp] theorem State.withLines_reference (s : State) (x : Lines) :
    (s.withLines x).reference = s.reference := rfl
@[simp] theorem State.withLines_supervisor (s : State) (x : Lines) :
    (s.withLines x).supervisor = s.supervisor := rfl
@[simp] theorem State.withLines_table (s : State) (x : Lines) :
    (s.withLines x).table = s.table := rfl
@[simp] theorem State.withLines_queue (s : State) (x : Lines) :
    (s.withLines x).queue = s.queue := rfl
@[simp] theorem State.withLines_faults (s : State) (x : Lines) :
    (s.withLines x).faults = s.faults := rfl
@[simp] theorem State.withLines_engine (s : State) (x : Lines) :
    (s.withLines x).engine = s.engine := rfl
@[simp] theorem State.withLines_commands (s : State) (x : Lines) :
    (s.withLines x).commands = s.commands := rfl
@[simp] theorem State.withLines_ports (s : State) (x : Lines) :
    (s.withLines x).ports = s.ports := rfl
@[simp] theorem State.withLines_instant (s : State) (x : Lines) :
    (s.withLines x).instant = s.instant := rfl
@[simp] theorem State.withLines_pending (s : State) (x : Lines) :
    (s.withLines x).pending = s.pending := rfl

@[simp] theorem State.withMode_lines (s : State) (x : ModeController) :
    (s.withMode x).lines = s.lines := rfl
@[simp] theorem State.withMode_mode (s : State) (x : ModeController) :
    (s.withMode x).mode = x := rfl
@[simp] theorem State.withMode_params (s : State) (x : ModeController) :
    (s.withMode x).params = s.params := rfl
@[simp] theorem State.withMode_maps (s : State) (x : ModeController) :
    (s.withMode x).maps = s.maps := rfl
@[simp] theorem State.withMode_demand (s : State) (x : ModeController) :
    (s.withMode x).demand = s.demand := rfl
@[simp] theorem State.withMode_axles (s : State) (x : ModeController) :
    (s.withMode x).axles = s.axles := rfl
@[simp] theorem State.withMode_reference (s : State) (x : ModeController) :
    (s.withMode x).reference = s.reference := rfl
@[simp] theorem State.withMode_supervisor (s : State) (x : ModeController) :
    (s.withMode x).supervisor = s.supervisor := rfl
@[simp] theorem State.withMode_table (s : State) (x : ModeController) :
    (s.withMode x).table = s.table := rfl
@[simp] theorem State.withMode_queue (s : State) (x : ModeController) :
    (s.withMode x).queue = s.queue := rfl
@[simp] theorem State.withMode_faults (s : State) (x : ModeController) :
    (s.withMode x).faults = s.faults := rfl
@[simp] theorem State.withMode_engine (s : State) (x : ModeController) :
    (s.withMode x).engine = s.engine := rfl
@[simp] theorem State.withMode_commands (s : State) (x : ModeController) :
    (s.withMode x).commands = s.commands := rfl
@[simp] theorem State.withMode_ports (s : State) (x : ModeController) :
    (s.withMode x).ports = s.ports := rfl
@[simp] theorem State.withMode_instant (s : State) (x : ModeController) :
    (s.withMode x).instant = s.instant := rfl
@[simp] theorem State.withMode_pending (s : State) (x : ModeController) :
    (s.withMode x).pending = s.pending := rfl

@[simp] theorem State.withParams_lines (s : State) (x : Params) :
    (s.withParams x).lines = s.lines := rfl
@[simp] theorem State.withParams_mode (s : State) (x : Params) :
    (s.withParams x).mode = s.mode := rfl
@[simp] theorem State.withParams_params (s : State) (x : Params) :
    (s.withParams x).params = x := rfl
@[simp] theorem State.withParams_maps (s : State) (x : Params) :
    (s.withParams x).maps = s.maps := rfl
@[simp] theorem State.withParams_demand (s : State) (x : Params) :
    (s.withParams x).demand = s.demand := rfl
@[simp] theorem State.withParams_axles (s : State) (x : Params) :
    (s.withParams x).axles = s.axles := rfl
@[simp] theorem State.withParams_reference (s : State) (x : Params) :
    (s.withParams x).reference = s.reference := rfl
@[simp] theorem State.withParams_supervisor (s : State) (x : Params) :
    (s.withParams x).supervisor = s.supervisor := rfl
@[simp] theorem State.withParams_table (s : State) (x : Params) :
    (s.withParams x).table = s.table := rfl
@[simp] theorem State.withParams_queue (s : State) (x : Params) :
    (s.withParams x).queue = s.queue := rfl
@[simp] theorem State.withParams_faults (s : State) (x : Params) :
    (s.withParams x).faults = s.faults := rfl
@[simp] theorem State.withParams_engine (s : State) (x : Params) :
    (s.withParams x).engine = s.engine := rfl
@[simp] theorem State.withParams_commands (s : State) (x : Params) :
    (s.withParams x).commands = s.commands := rfl
@[simp] theorem State.withParams_ports (s : State) (x : Params) :
    (s.withParams x).ports = s.ports := rfl
@[simp] theorem State.withParams_instant (s : State) (x : Params) :
    (s.withParams x).instant = s.instant := rfl
@[simp] theorem State.withParams_pending (s : State) (x : Params) :
    (s.withParams x).pending = s.pending := rfl

@[simp] theorem State.withMaps_lines (s : State) (x : MapStore) :
    (s.withMaps x).lines = s.lines := rfl
@[simp] theorem State.withMaps_mode (s : State) (x : MapStore) : (s.withMaps x).mode = s.mode := rfl
@[simp] theorem State.withMaps_params (s : State) (x : MapStore) :
    (s.withMaps x).params = s.params := rfl
@[simp] theorem State.withMaps_maps (s : State) (x : MapStore) : (s.withMaps x).maps = x := rfl
@[simp] theorem State.withMaps_demand (s : State) (x : MapStore) :
    (s.withMaps x).demand = s.demand := rfl
@[simp] theorem State.withMaps_axles (s : State) (x : MapStore) :
    (s.withMaps x).axles = s.axles := rfl
@[simp] theorem State.withMaps_reference (s : State) (x : MapStore) :
    (s.withMaps x).reference = s.reference := rfl
@[simp] theorem State.withMaps_supervisor (s : State) (x : MapStore) :
    (s.withMaps x).supervisor = s.supervisor := rfl
@[simp] theorem State.withMaps_table (s : State) (x : MapStore) :
    (s.withMaps x).table = s.table := rfl
@[simp] theorem State.withMaps_queue (s : State) (x : MapStore) :
    (s.withMaps x).queue = s.queue := rfl
@[simp] theorem State.withMaps_faults (s : State) (x : MapStore) :
    (s.withMaps x).faults = s.faults := rfl
@[simp] theorem State.withMaps_engine (s : State) (x : MapStore) :
    (s.withMaps x).engine = s.engine := rfl
@[simp] theorem State.withMaps_commands (s : State) (x : MapStore) :
    (s.withMaps x).commands = s.commands := rfl
@[simp] theorem State.withMaps_ports (s : State) (x : MapStore) :
    (s.withMaps x).ports = s.ports := rfl
@[simp] theorem State.withMaps_instant (s : State) (x : MapStore) :
    (s.withMaps x).instant = s.instant := rfl
@[simp] theorem State.withMaps_pending (s : State) (x : MapStore) :
    (s.withMaps x).pending = s.pending := rfl

@[simp] theorem State.withDemand_lines (s : State) (x : DemandRecord) :
    (s.withDemand x).lines = s.lines := rfl
@[simp] theorem State.withDemand_mode (s : State) (x : DemandRecord) :
    (s.withDemand x).mode = s.mode := rfl
@[simp] theorem State.withDemand_params (s : State) (x : DemandRecord) :
    (s.withDemand x).params = s.params := rfl
@[simp] theorem State.withDemand_maps (s : State) (x : DemandRecord) :
    (s.withDemand x).maps = s.maps := rfl
@[simp] theorem State.withDemand_demand (s : State) (x : DemandRecord) :
    (s.withDemand x).demand = x := rfl
@[simp] theorem State.withDemand_axles (s : State) (x : DemandRecord) :
    (s.withDemand x).axles = s.axles := rfl
@[simp] theorem State.withDemand_reference (s : State) (x : DemandRecord) :
    (s.withDemand x).reference = s.reference := rfl
@[simp] theorem State.withDemand_supervisor (s : State) (x : DemandRecord) :
    (s.withDemand x).supervisor = s.supervisor := rfl
@[simp] theorem State.withDemand_table (s : State) (x : DemandRecord) :
    (s.withDemand x).table = s.table := rfl
@[simp] theorem State.withDemand_queue (s : State) (x : DemandRecord) :
    (s.withDemand x).queue = s.queue := rfl
@[simp] theorem State.withDemand_faults (s : State) (x : DemandRecord) :
    (s.withDemand x).faults = s.faults := rfl
@[simp] theorem State.withDemand_engine (s : State) (x : DemandRecord) :
    (s.withDemand x).engine = s.engine := rfl
@[simp] theorem State.withDemand_commands (s : State) (x : DemandRecord) :
    (s.withDemand x).commands = s.commands := rfl
@[simp] theorem State.withDemand_ports (s : State) (x : DemandRecord) :
    (s.withDemand x).ports = s.ports := rfl
@[simp] theorem State.withDemand_instant (s : State) (x : DemandRecord) :
    (s.withDemand x).instant = s.instant := rfl
@[simp] theorem State.withDemand_pending (s : State) (x : DemandRecord) :
    (s.withDemand x).pending = s.pending := rfl

@[simp] theorem State.withAxles_lines (s : State) (x : PerAxle AxleRecord) :
    (s.withAxles x).lines = s.lines := rfl
@[simp] theorem State.withAxles_mode (s : State) (x : PerAxle AxleRecord) :
    (s.withAxles x).mode = s.mode := rfl
@[simp] theorem State.withAxles_params (s : State) (x : PerAxle AxleRecord) :
    (s.withAxles x).params = s.params := rfl
@[simp] theorem State.withAxles_maps (s : State) (x : PerAxle AxleRecord) :
    (s.withAxles x).maps = s.maps := rfl
@[simp] theorem State.withAxles_demand (s : State) (x : PerAxle AxleRecord) :
    (s.withAxles x).demand = s.demand := rfl
@[simp] theorem State.withAxles_axles (s : State) (x : PerAxle AxleRecord) :
    (s.withAxles x).axles = x := rfl
@[simp] theorem State.withAxles_reference (s : State) (x : PerAxle AxleRecord) :
    (s.withAxles x).reference = s.reference := rfl
@[simp] theorem State.withAxles_supervisor (s : State) (x : PerAxle AxleRecord) :
    (s.withAxles x).supervisor = s.supervisor := rfl
@[simp] theorem State.withAxles_table (s : State) (x : PerAxle AxleRecord) :
    (s.withAxles x).table = s.table := rfl
@[simp] theorem State.withAxles_queue (s : State) (x : PerAxle AxleRecord) :
    (s.withAxles x).queue = s.queue := rfl
@[simp] theorem State.withAxles_faults (s : State) (x : PerAxle AxleRecord) :
    (s.withAxles x).faults = s.faults := rfl
@[simp] theorem State.withAxles_engine (s : State) (x : PerAxle AxleRecord) :
    (s.withAxles x).engine = s.engine := rfl
@[simp] theorem State.withAxles_commands (s : State) (x : PerAxle AxleRecord) :
    (s.withAxles x).commands = s.commands := rfl
@[simp] theorem State.withAxles_ports (s : State) (x : PerAxle AxleRecord) :
    (s.withAxles x).ports = s.ports := rfl
@[simp] theorem State.withAxles_instant (s : State) (x : PerAxle AxleRecord) :
    (s.withAxles x).instant = s.instant := rfl
@[simp] theorem State.withAxles_pending (s : State) (x : PerAxle AxleRecord) :
    (s.withAxles x).pending = s.pending := rfl

@[simp] theorem State.withReference_lines (s : State) (x : ReferenceRecord) :
    (s.withReference x).lines = s.lines := rfl
@[simp] theorem State.withReference_mode (s : State) (x : ReferenceRecord) :
    (s.withReference x).mode = s.mode := rfl
@[simp] theorem State.withReference_params (s : State) (x : ReferenceRecord) :
    (s.withReference x).params = s.params := rfl
@[simp] theorem State.withReference_maps (s : State) (x : ReferenceRecord) :
    (s.withReference x).maps = s.maps := rfl
@[simp] theorem State.withReference_demand (s : State) (x : ReferenceRecord) :
    (s.withReference x).demand = s.demand := rfl
@[simp] theorem State.withReference_axles (s : State) (x : ReferenceRecord) :
    (s.withReference x).axles = s.axles := rfl
@[simp] theorem State.withReference_reference (s : State) (x : ReferenceRecord) :
    (s.withReference x).reference = x := rfl
@[simp] theorem State.withReference_supervisor (s : State) (x : ReferenceRecord) :
    (s.withReference x).supervisor = s.supervisor := rfl
@[simp] theorem State.withReference_table (s : State) (x : ReferenceRecord) :
    (s.withReference x).table = s.table := rfl
@[simp] theorem State.withReference_queue (s : State) (x : ReferenceRecord) :
    (s.withReference x).queue = s.queue := rfl
@[simp] theorem State.withReference_faults (s : State) (x : ReferenceRecord) :
    (s.withReference x).faults = s.faults := rfl
@[simp] theorem State.withReference_engine (s : State) (x : ReferenceRecord) :
    (s.withReference x).engine = s.engine := rfl
@[simp] theorem State.withReference_commands (s : State) (x : ReferenceRecord) :
    (s.withReference x).commands = s.commands := rfl
@[simp] theorem State.withReference_ports (s : State) (x : ReferenceRecord) :
    (s.withReference x).ports = s.ports := rfl
@[simp] theorem State.withReference_instant (s : State) (x : ReferenceRecord) :
    (s.withReference x).instant = s.instant := rfl
@[simp] theorem State.withReference_pending (s : State) (x : ReferenceRecord) :
    (s.withReference x).pending = s.pending := rfl

@[simp] theorem State.withSupervisor_lines (s : State) (x : Supervisor) :
    (s.withSupervisor x).lines = s.lines := rfl
@[simp] theorem State.withSupervisor_mode (s : State) (x : Supervisor) :
    (s.withSupervisor x).mode = s.mode := rfl
@[simp] theorem State.withSupervisor_params (s : State) (x : Supervisor) :
    (s.withSupervisor x).params = s.params := rfl
@[simp] theorem State.withSupervisor_maps (s : State) (x : Supervisor) :
    (s.withSupervisor x).maps = s.maps := rfl
@[simp] theorem State.withSupervisor_demand (s : State) (x : Supervisor) :
    (s.withSupervisor x).demand = s.demand := rfl
@[simp] theorem State.withSupervisor_axles (s : State) (x : Supervisor) :
    (s.withSupervisor x).axles = s.axles := rfl
@[simp] theorem State.withSupervisor_reference (s : State) (x : Supervisor) :
    (s.withSupervisor x).reference = s.reference := rfl
@[simp] theorem State.withSupervisor_supervisor (s : State) (x : Supervisor) :
    (s.withSupervisor x).supervisor = x := rfl
@[simp] theorem State.withSupervisor_table (s : State) (x : Supervisor) :
    (s.withSupervisor x).table = s.table := rfl
@[simp] theorem State.withSupervisor_queue (s : State) (x : Supervisor) :
    (s.withSupervisor x).queue = s.queue := rfl
@[simp] theorem State.withSupervisor_faults (s : State) (x : Supervisor) :
    (s.withSupervisor x).faults = s.faults := rfl
@[simp] theorem State.withSupervisor_engine (s : State) (x : Supervisor) :
    (s.withSupervisor x).engine = s.engine := rfl
@[simp] theorem State.withSupervisor_commands (s : State) (x : Supervisor) :
    (s.withSupervisor x).commands = s.commands := rfl
@[simp] theorem State.withSupervisor_ports (s : State) (x : Supervisor) :
    (s.withSupervisor x).ports = s.ports := rfl
@[simp] theorem State.withSupervisor_instant (s : State) (x : Supervisor) :
    (s.withSupervisor x).instant = s.instant := rfl
@[simp] theorem State.withSupervisor_pending (s : State) (x : Supervisor) :
    (s.withSupervisor x).pending = s.pending := rfl

@[simp] theorem State.withTable_lines (s : State) (x : List Entry) :
    (s.withTable x).lines = s.lines := rfl
@[simp] theorem State.withTable_mode (s : State) (x : List Entry) :
    (s.withTable x).mode = s.mode := rfl
@[simp] theorem State.withTable_params (s : State) (x : List Entry) :
    (s.withTable x).params = s.params := rfl
@[simp] theorem State.withTable_maps (s : State) (x : List Entry) :
    (s.withTable x).maps = s.maps := rfl
@[simp] theorem State.withTable_demand (s : State) (x : List Entry) :
    (s.withTable x).demand = s.demand := rfl
@[simp] theorem State.withTable_axles (s : State) (x : List Entry) :
    (s.withTable x).axles = s.axles := rfl
@[simp] theorem State.withTable_reference (s : State) (x : List Entry) :
    (s.withTable x).reference = s.reference := rfl
@[simp] theorem State.withTable_supervisor (s : State) (x : List Entry) :
    (s.withTable x).supervisor = s.supervisor := rfl
@[simp] theorem State.withTable_table (s : State) (x : List Entry) :
    (s.withTable x).table = x := rfl
@[simp] theorem State.withTable_queue (s : State) (x : List Entry) :
    (s.withTable x).queue = s.queue := rfl
@[simp] theorem State.withTable_faults (s : State) (x : List Entry) :
    (s.withTable x).faults = s.faults := rfl
@[simp] theorem State.withTable_engine (s : State) (x : List Entry) :
    (s.withTable x).engine = s.engine := rfl
@[simp] theorem State.withTable_commands (s : State) (x : List Entry) :
    (s.withTable x).commands = s.commands := rfl
@[simp] theorem State.withTable_ports (s : State) (x : List Entry) :
    (s.withTable x).ports = s.ports := rfl
@[simp] theorem State.withTable_instant (s : State) (x : List Entry) :
    (s.withTable x).instant = s.instant := rfl
@[simp] theorem State.withTable_pending (s : State) (x : List Entry) :
    (s.withTable x).pending = s.pending := rfl

@[simp] theorem State.withQueue_lines (s : State) (x : ProgramQueue) :
    (s.withQueue x).lines = s.lines := rfl
@[simp] theorem State.withQueue_mode (s : State) (x : ProgramQueue) :
    (s.withQueue x).mode = s.mode := rfl
@[simp] theorem State.withQueue_params (s : State) (x : ProgramQueue) :
    (s.withQueue x).params = s.params := rfl
@[simp] theorem State.withQueue_maps (s : State) (x : ProgramQueue) :
    (s.withQueue x).maps = s.maps := rfl
@[simp] theorem State.withQueue_demand (s : State) (x : ProgramQueue) :
    (s.withQueue x).demand = s.demand := rfl
@[simp] theorem State.withQueue_axles (s : State) (x : ProgramQueue) :
    (s.withQueue x).axles = s.axles := rfl
@[simp] theorem State.withQueue_reference (s : State) (x : ProgramQueue) :
    (s.withQueue x).reference = s.reference := rfl
@[simp] theorem State.withQueue_supervisor (s : State) (x : ProgramQueue) :
    (s.withQueue x).supervisor = s.supervisor := rfl
@[simp] theorem State.withQueue_table (s : State) (x : ProgramQueue) :
    (s.withQueue x).table = s.table := rfl
@[simp] theorem State.withQueue_queue (s : State) (x : ProgramQueue) :
    (s.withQueue x).queue = x := rfl
@[simp] theorem State.withQueue_faults (s : State) (x : ProgramQueue) :
    (s.withQueue x).faults = s.faults := rfl
@[simp] theorem State.withQueue_engine (s : State) (x : ProgramQueue) :
    (s.withQueue x).engine = s.engine := rfl
@[simp] theorem State.withQueue_commands (s : State) (x : ProgramQueue) :
    (s.withQueue x).commands = s.commands := rfl
@[simp] theorem State.withQueue_ports (s : State) (x : ProgramQueue) :
    (s.withQueue x).ports = s.ports := rfl
@[simp] theorem State.withQueue_instant (s : State) (x : ProgramQueue) :
    (s.withQueue x).instant = s.instant := rfl
@[simp] theorem State.withQueue_pending (s : State) (x : ProgramQueue) :
    (s.withQueue x).pending = s.pending := rfl

@[simp] theorem State.withFaults_lines (s : State) (x : PerFault FaultRecord) :
    (s.withFaults x).lines = s.lines := rfl
@[simp] theorem State.withFaults_mode (s : State) (x : PerFault FaultRecord) :
    (s.withFaults x).mode = s.mode := rfl
@[simp] theorem State.withFaults_params (s : State) (x : PerFault FaultRecord) :
    (s.withFaults x).params = s.params := rfl
@[simp] theorem State.withFaults_maps (s : State) (x : PerFault FaultRecord) :
    (s.withFaults x).maps = s.maps := rfl
@[simp] theorem State.withFaults_demand (s : State) (x : PerFault FaultRecord) :
    (s.withFaults x).demand = s.demand := rfl
@[simp] theorem State.withFaults_axles (s : State) (x : PerFault FaultRecord) :
    (s.withFaults x).axles = s.axles := rfl
@[simp] theorem State.withFaults_reference (s : State) (x : PerFault FaultRecord) :
    (s.withFaults x).reference = s.reference := rfl
@[simp] theorem State.withFaults_supervisor (s : State) (x : PerFault FaultRecord) :
    (s.withFaults x).supervisor = s.supervisor := rfl
@[simp] theorem State.withFaults_table (s : State) (x : PerFault FaultRecord) :
    (s.withFaults x).table = s.table := rfl
@[simp] theorem State.withFaults_queue (s : State) (x : PerFault FaultRecord) :
    (s.withFaults x).queue = s.queue := rfl
@[simp] theorem State.withFaults_faults (s : State) (x : PerFault FaultRecord) :
    (s.withFaults x).faults = x := rfl
@[simp] theorem State.withFaults_engine (s : State) (x : PerFault FaultRecord) :
    (s.withFaults x).engine = s.engine := rfl
@[simp] theorem State.withFaults_commands (s : State) (x : PerFault FaultRecord) :
    (s.withFaults x).commands = s.commands := rfl
@[simp] theorem State.withFaults_ports (s : State) (x : PerFault FaultRecord) :
    (s.withFaults x).ports = s.ports := rfl
@[simp] theorem State.withFaults_instant (s : State) (x : PerFault FaultRecord) :
    (s.withFaults x).instant = s.instant := rfl
@[simp] theorem State.withFaults_pending (s : State) (x : PerFault FaultRecord) :
    (s.withFaults x).pending = s.pending := rfl

@[simp] theorem State.withEngine_lines (s : State) (x : Engine) :
    (s.withEngine x).lines = s.lines := rfl
@[simp] theorem State.withEngine_mode (s : State) (x : Engine) :
    (s.withEngine x).mode = s.mode := rfl
@[simp] theorem State.withEngine_params (s : State) (x : Engine) :
    (s.withEngine x).params = s.params := rfl
@[simp] theorem State.withEngine_maps (s : State) (x : Engine) :
    (s.withEngine x).maps = s.maps := rfl
@[simp] theorem State.withEngine_demand (s : State) (x : Engine) :
    (s.withEngine x).demand = s.demand := rfl
@[simp] theorem State.withEngine_axles (s : State) (x : Engine) :
    (s.withEngine x).axles = s.axles := rfl
@[simp] theorem State.withEngine_reference (s : State) (x : Engine) :
    (s.withEngine x).reference = s.reference := rfl
@[simp] theorem State.withEngine_supervisor (s : State) (x : Engine) :
    (s.withEngine x).supervisor = s.supervisor := rfl
@[simp] theorem State.withEngine_table (s : State) (x : Engine) :
    (s.withEngine x).table = s.table := rfl
@[simp] theorem State.withEngine_queue (s : State) (x : Engine) :
    (s.withEngine x).queue = s.queue := rfl
@[simp] theorem State.withEngine_faults (s : State) (x : Engine) :
    (s.withEngine x).faults = s.faults := rfl
@[simp] theorem State.withEngine_engine (s : State) (x : Engine) :
    (s.withEngine x).engine = x := rfl
@[simp] theorem State.withEngine_commands (s : State) (x : Engine) :
    (s.withEngine x).commands = s.commands := rfl
@[simp] theorem State.withEngine_ports (s : State) (x : Engine) :
    (s.withEngine x).ports = s.ports := rfl
@[simp] theorem State.withEngine_instant (s : State) (x : Engine) :
    (s.withEngine x).instant = s.instant := rfl
@[simp] theorem State.withEngine_pending (s : State) (x : Engine) :
    (s.withEngine x).pending = s.pending := rfl

@[simp] theorem State.withCommands_lines (s : State) (x : PerAxle (Option AxleCmd)) :
    (s.withCommands x).lines = s.lines := rfl
@[simp] theorem State.withCommands_mode (s : State) (x : PerAxle (Option AxleCmd)) :
    (s.withCommands x).mode = s.mode := rfl
@[simp] theorem State.withCommands_params (s : State) (x : PerAxle (Option AxleCmd)) :
    (s.withCommands x).params = s.params := rfl
@[simp] theorem State.withCommands_maps (s : State) (x : PerAxle (Option AxleCmd)) :
    (s.withCommands x).maps = s.maps := rfl
@[simp] theorem State.withCommands_demand (s : State) (x : PerAxle (Option AxleCmd)) :
    (s.withCommands x).demand = s.demand := rfl
@[simp] theorem State.withCommands_axles (s : State) (x : PerAxle (Option AxleCmd)) :
    (s.withCommands x).axles = s.axles := rfl
@[simp] theorem State.withCommands_reference (s : State) (x : PerAxle (Option AxleCmd)) :
    (s.withCommands x).reference = s.reference := rfl
@[simp] theorem State.withCommands_supervisor (s : State) (x : PerAxle (Option AxleCmd)) :
    (s.withCommands x).supervisor = s.supervisor := rfl
@[simp] theorem State.withCommands_table (s : State) (x : PerAxle (Option AxleCmd)) :
    (s.withCommands x).table = s.table := rfl
@[simp] theorem State.withCommands_queue (s : State) (x : PerAxle (Option AxleCmd)) :
    (s.withCommands x).queue = s.queue := rfl
@[simp] theorem State.withCommands_faults (s : State) (x : PerAxle (Option AxleCmd)) :
    (s.withCommands x).faults = s.faults := rfl
@[simp] theorem State.withCommands_engine (s : State) (x : PerAxle (Option AxleCmd)) :
    (s.withCommands x).engine = s.engine := rfl
@[simp] theorem State.withCommands_commands (s : State) (x : PerAxle (Option AxleCmd)) :
    (s.withCommands x).commands = x := rfl
@[simp] theorem State.withCommands_ports (s : State) (x : PerAxle (Option AxleCmd)) :
    (s.withCommands x).ports = s.ports := rfl
@[simp] theorem State.withCommands_instant (s : State) (x : PerAxle (Option AxleCmd)) :
    (s.withCommands x).instant = s.instant := rfl
@[simp] theorem State.withCommands_pending (s : State) (x : PerAxle (Option AxleCmd)) :
    (s.withCommands x).pending = s.pending := rfl

@[simp] theorem State.withPorts_lines (s : State) (x : PerPort LinkPort) :
    (s.withPorts x).lines = s.lines := rfl
@[simp] theorem State.withPorts_mode (s : State) (x : PerPort LinkPort) :
    (s.withPorts x).mode = s.mode := rfl
@[simp] theorem State.withPorts_params (s : State) (x : PerPort LinkPort) :
    (s.withPorts x).params = s.params := rfl
@[simp] theorem State.withPorts_maps (s : State) (x : PerPort LinkPort) :
    (s.withPorts x).maps = s.maps := rfl
@[simp] theorem State.withPorts_demand (s : State) (x : PerPort LinkPort) :
    (s.withPorts x).demand = s.demand := rfl
@[simp] theorem State.withPorts_axles (s : State) (x : PerPort LinkPort) :
    (s.withPorts x).axles = s.axles := rfl
@[simp] theorem State.withPorts_reference (s : State) (x : PerPort LinkPort) :
    (s.withPorts x).reference = s.reference := rfl
@[simp] theorem State.withPorts_supervisor (s : State) (x : PerPort LinkPort) :
    (s.withPorts x).supervisor = s.supervisor := rfl
@[simp] theorem State.withPorts_table (s : State) (x : PerPort LinkPort) :
    (s.withPorts x).table = s.table := rfl
@[simp] theorem State.withPorts_queue (s : State) (x : PerPort LinkPort) :
    (s.withPorts x).queue = s.queue := rfl
@[simp] theorem State.withPorts_faults (s : State) (x : PerPort LinkPort) :
    (s.withPorts x).faults = s.faults := rfl
@[simp] theorem State.withPorts_engine (s : State) (x : PerPort LinkPort) :
    (s.withPorts x).engine = s.engine := rfl
@[simp] theorem State.withPorts_commands (s : State) (x : PerPort LinkPort) :
    (s.withPorts x).commands = s.commands := rfl
@[simp] theorem State.withPorts_ports (s : State) (x : PerPort LinkPort) :
    (s.withPorts x).ports = x := rfl
@[simp] theorem State.withPorts_instant (s : State) (x : PerPort LinkPort) :
    (s.withPorts x).instant = s.instant := rfl
@[simp] theorem State.withPorts_pending (s : State) (x : PerPort LinkPort) :
    (s.withPorts x).pending = s.pending := rfl

@[simp] theorem State.withInstant_lines (s : State) (x : Instant) :
    (s.withInstant x).lines = s.lines := rfl
@[simp] theorem State.withInstant_mode (s : State) (x : Instant) :
    (s.withInstant x).mode = s.mode := rfl
@[simp] theorem State.withInstant_params (s : State) (x : Instant) :
    (s.withInstant x).params = s.params := rfl
@[simp] theorem State.withInstant_maps (s : State) (x : Instant) :
    (s.withInstant x).maps = s.maps := rfl
@[simp] theorem State.withInstant_demand (s : State) (x : Instant) :
    (s.withInstant x).demand = s.demand := rfl
@[simp] theorem State.withInstant_axles (s : State) (x : Instant) :
    (s.withInstant x).axles = s.axles := rfl
@[simp] theorem State.withInstant_reference (s : State) (x : Instant) :
    (s.withInstant x).reference = s.reference := rfl
@[simp] theorem State.withInstant_supervisor (s : State) (x : Instant) :
    (s.withInstant x).supervisor = s.supervisor := rfl
@[simp] theorem State.withInstant_table (s : State) (x : Instant) :
    (s.withInstant x).table = s.table := rfl
@[simp] theorem State.withInstant_queue (s : State) (x : Instant) :
    (s.withInstant x).queue = s.queue := rfl
@[simp] theorem State.withInstant_faults (s : State) (x : Instant) :
    (s.withInstant x).faults = s.faults := rfl
@[simp] theorem State.withInstant_engine (s : State) (x : Instant) :
    (s.withInstant x).engine = s.engine := rfl
@[simp] theorem State.withInstant_commands (s : State) (x : Instant) :
    (s.withInstant x).commands = s.commands := rfl
@[simp] theorem State.withInstant_ports (s : State) (x : Instant) :
    (s.withInstant x).ports = s.ports := rfl
@[simp] theorem State.withInstant_instant (s : State) (x : Instant) :
    (s.withInstant x).instant = x := rfl
@[simp] theorem State.withInstant_pending (s : State) (x : Instant) :
    (s.withInstant x).pending = s.pending := rfl

@[simp] theorem State.withPending_lines (s : State) (x : List Instr) :
    (s.withPending x).lines = s.lines := rfl
@[simp] theorem State.withPending_mode (s : State) (x : List Instr) :
    (s.withPending x).mode = s.mode := rfl
@[simp] theorem State.withPending_params (s : State) (x : List Instr) :
    (s.withPending x).params = s.params := rfl
@[simp] theorem State.withPending_maps (s : State) (x : List Instr) :
    (s.withPending x).maps = s.maps := rfl
@[simp] theorem State.withPending_demand (s : State) (x : List Instr) :
    (s.withPending x).demand = s.demand := rfl
@[simp] theorem State.withPending_axles (s : State) (x : List Instr) :
    (s.withPending x).axles = s.axles := rfl
@[simp] theorem State.withPending_reference (s : State) (x : List Instr) :
    (s.withPending x).reference = s.reference := rfl
@[simp] theorem State.withPending_supervisor (s : State) (x : List Instr) :
    (s.withPending x).supervisor = s.supervisor := rfl
@[simp] theorem State.withPending_table (s : State) (x : List Instr) :
    (s.withPending x).table = s.table := rfl
@[simp] theorem State.withPending_queue (s : State) (x : List Instr) :
    (s.withPending x).queue = s.queue := rfl
@[simp] theorem State.withPending_faults (s : State) (x : List Instr) :
    (s.withPending x).faults = s.faults := rfl
@[simp] theorem State.withPending_engine (s : State) (x : List Instr) :
    (s.withPending x).engine = s.engine := rfl
@[simp] theorem State.withPending_commands (s : State) (x : List Instr) :
    (s.withPending x).commands = s.commands := rfl
@[simp] theorem State.withPending_ports (s : State) (x : List Instr) :
    (s.withPending x).ports = s.ports := rfl
@[simp] theorem State.withPending_instant (s : State) (x : List Instr) :
    (s.withPending x).instant = s.instant := rfl
@[simp] theorem State.withPending_pending (s : State) (x : List Instr) :
    (s.withPending x).pending = x := rfl

@[simp] theorem State.withPort_lines (s : State) (p : Port) (l : LinkPort) :
    (s.withPort p l).lines = s.lines := rfl
@[simp] theorem State.withPort_mode (s : State) (p : Port) (l : LinkPort) :
    (s.withPort p l).mode = s.mode := rfl
@[simp] theorem State.withPort_params (s : State) (p : Port) (l : LinkPort) :
    (s.withPort p l).params = s.params := rfl
@[simp] theorem State.withPort_maps (s : State) (p : Port) (l : LinkPort) :
    (s.withPort p l).maps = s.maps := rfl
@[simp] theorem State.withPort_demand (s : State) (p : Port) (l : LinkPort) :
    (s.withPort p l).demand = s.demand := rfl
@[simp] theorem State.withPort_axles (s : State) (p : Port) (l : LinkPort) :
    (s.withPort p l).axles = s.axles := rfl
@[simp] theorem State.withPort_reference (s : State) (p : Port) (l : LinkPort) :
    (s.withPort p l).reference = s.reference := rfl
@[simp] theorem State.withPort_supervisor (s : State) (p : Port) (l : LinkPort) :
    (s.withPort p l).supervisor = s.supervisor := rfl
@[simp] theorem State.withPort_table (s : State) (p : Port) (l : LinkPort) :
    (s.withPort p l).table = s.table := rfl
@[simp] theorem State.withPort_queue (s : State) (p : Port) (l : LinkPort) :
    (s.withPort p l).queue = s.queue := rfl
@[simp] theorem State.withPort_faults (s : State) (p : Port) (l : LinkPort) :
    (s.withPort p l).faults = s.faults := rfl
@[simp] theorem State.withPort_engine (s : State) (p : Port) (l : LinkPort) :
    (s.withPort p l).engine = s.engine := rfl
@[simp] theorem State.withPort_commands (s : State) (p : Port) (l : LinkPort) :
    (s.withPort p l).commands = s.commands := rfl
@[simp] theorem State.withPort_instant (s : State) (p : Port) (l : LinkPort) :
    (s.withPort p l).instant = s.instant := rfl
@[simp] theorem State.withPort_pending (s : State) (p : Port) (l : LinkPort) :
    (s.withPort p l).pending = s.pending := rfl

@[simp] theorem State.mapPorts_lines (s : State) (g : LinkPort → LinkPort) :
    (s.mapPorts g).lines = s.lines := rfl
@[simp] theorem State.mapPorts_mode (s : State) (g : LinkPort → LinkPort) :
    (s.mapPorts g).mode = s.mode := rfl
@[simp] theorem State.mapPorts_params (s : State) (g : LinkPort → LinkPort) :
    (s.mapPorts g).params = s.params := rfl
@[simp] theorem State.mapPorts_maps (s : State) (g : LinkPort → LinkPort) :
    (s.mapPorts g).maps = s.maps := rfl
@[simp] theorem State.mapPorts_demand (s : State) (g : LinkPort → LinkPort) :
    (s.mapPorts g).demand = s.demand := rfl
@[simp] theorem State.mapPorts_axles (s : State) (g : LinkPort → LinkPort) :
    (s.mapPorts g).axles = s.axles := rfl
@[simp] theorem State.mapPorts_reference (s : State) (g : LinkPort → LinkPort) :
    (s.mapPorts g).reference = s.reference := rfl
@[simp] theorem State.mapPorts_supervisor (s : State) (g : LinkPort → LinkPort) :
    (s.mapPorts g).supervisor = s.supervisor := rfl
@[simp] theorem State.mapPorts_table (s : State) (g : LinkPort → LinkPort) :
    (s.mapPorts g).table = s.table := rfl
@[simp] theorem State.mapPorts_queue (s : State) (g : LinkPort → LinkPort) :
    (s.mapPorts g).queue = s.queue := rfl
@[simp] theorem State.mapPorts_faults (s : State) (g : LinkPort → LinkPort) :
    (s.mapPorts g).faults = s.faults := rfl
@[simp] theorem State.mapPorts_engine (s : State) (g : LinkPort → LinkPort) :
    (s.mapPorts g).engine = s.engine := rfl
@[simp] theorem State.mapPorts_commands (s : State) (g : LinkPort → LinkPort) :
    (s.mapPorts g).commands = s.commands := rfl
@[simp] theorem State.mapPorts_instant (s : State) (g : LinkPort → LinkPort) :
    (s.mapPorts g).instant = s.instant := rfl
@[simp] theorem State.mapPorts_pending (s : State) (g : LinkPort → LinkPort) :
    (s.mapPorts g).pending = s.pending := rfl
@[simp] theorem State.withPort_ports (s : State) (p : Port) (l : LinkPort) :
    (s.withPort p l).ports = s.ports.set p l := rfl
@[simp] theorem State.mapPorts_ports (s : State) (g : LinkPort → LinkPort) :
    (s.mapPorts g).ports = s.ports.map g := rfl

end Sys2Proof.Machine
end

