-- ==== Sys2Proof/Laws/Ops.lean ====
section
/-! SUPPORT. What each shared operation of Machine/Ops leaves unchanged, block by block, and the levels of
the RESET and SHUTOFF lines, which no operation moves. -/
namespace Sys2Proof.Machine

@[simp] theorem triggerStatus_lines (p : Port) (s : State) :
    (triggerStatus p s).lines = s.lines := by
  simp [triggerStatus, State.withPort]
@[simp] theorem triggerStatus_mode (p : Port) (s : State) : (triggerStatus p s).mode = s.mode := by
  simp [triggerStatus, State.withPort]
@[simp] theorem triggerStatus_params (p : Port) (s : State) :
    (triggerStatus p s).params = s.params := by
  simp [triggerStatus, State.withPort]
@[simp] theorem triggerStatus_maps (p : Port) (s : State) : (triggerStatus p s).maps = s.maps := by
  simp [triggerStatus, State.withPort]
@[simp] theorem triggerStatus_demand (p : Port) (s : State) :
    (triggerStatus p s).demand = s.demand := by
  simp [triggerStatus, State.withPort]
@[simp] theorem triggerStatus_axles (p : Port) (s : State) :
    (triggerStatus p s).axles = s.axles := by
  simp [triggerStatus, State.withPort]
@[simp] theorem triggerStatus_reference (p : Port) (s : State) :
    (triggerStatus p s).reference = s.reference := by
  simp [triggerStatus, State.withPort]
@[simp] theorem triggerStatus_supervisor (p : Port) (s : State) :
    (triggerStatus p s).supervisor = s.supervisor := by
  simp [triggerStatus, State.withPort]
@[simp] theorem triggerStatus_table (p : Port) (s : State) :
    (triggerStatus p s).table = s.table := by
  simp [triggerStatus, State.withPort]
@[simp] theorem triggerStatus_queue (p : Port) (s : State) :
    (triggerStatus p s).queue = s.queue := by
  simp [triggerStatus, State.withPort]
@[simp] theorem triggerStatus_faults (p : Port) (s : State) :
    (triggerStatus p s).faults = s.faults := by
  simp [triggerStatus, State.withPort]
@[simp] theorem triggerStatus_engine (p : Port) (s : State) :
    (triggerStatus p s).engine = s.engine := by
  simp [triggerStatus, State.withPort]
@[simp] theorem triggerStatus_commands (p : Port) (s : State) :
    (triggerStatus p s).commands = s.commands := by
  simp [triggerStatus, State.withPort]
@[simp] theorem triggerStatus_instant (p : Port) (s : State) :
    (triggerStatus p s).instant = s.instant := by
  simp [triggerStatus, State.withPort]
@[simp] theorem triggerStatus_pending (p : Port) (s : State) :
    (triggerStatus p s).pending = s.pending := by
  simp [triggerStatus, State.withPort]

@[simp] theorem triggerStatusAll_lines (s : State) : (triggerStatusAll s).lines = s.lines := by
  simp [triggerStatusAll, State.mapPorts]
@[simp] theorem triggerStatusAll_mode (s : State) : (triggerStatusAll s).mode = s.mode := by
  simp [triggerStatusAll, State.mapPorts]
@[simp] theorem triggerStatusAll_params (s : State) : (triggerStatusAll s).params = s.params := by
  simp [triggerStatusAll, State.mapPorts]
@[simp] theorem triggerStatusAll_maps (s : State) : (triggerStatusAll s).maps = s.maps := by
  simp [triggerStatusAll, State.mapPorts]
@[simp] theorem triggerStatusAll_demand (s : State) : (triggerStatusAll s).demand = s.demand := by
  simp [triggerStatusAll, State.mapPorts]
@[simp] theorem triggerStatusAll_axles (s : State) : (triggerStatusAll s).axles = s.axles := by
  simp [triggerStatusAll, State.mapPorts]
@[simp] theorem triggerStatusAll_reference (s : State) :
    (triggerStatusAll s).reference = s.reference := by
  simp [triggerStatusAll, State.mapPorts]
@[simp] theorem triggerStatusAll_supervisor (s : State) :
    (triggerStatusAll s).supervisor = s.supervisor := by
  simp [triggerStatusAll, State.mapPorts]
@[simp] theorem triggerStatusAll_table (s : State) : (triggerStatusAll s).table = s.table := by
  simp [triggerStatusAll, State.mapPorts]
@[simp] theorem triggerStatusAll_queue (s : State) : (triggerStatusAll s).queue = s.queue := by
  simp [triggerStatusAll, State.mapPorts]
@[simp] theorem triggerStatusAll_faults (s : State) : (triggerStatusAll s).faults = s.faults := by
  simp [triggerStatusAll, State.mapPorts]
@[simp] theorem triggerStatusAll_engine (s : State) : (triggerStatusAll s).engine = s.engine := by
  simp [triggerStatusAll, State.mapPorts]
@[simp] theorem triggerStatusAll_commands (s : State) :
    (triggerStatusAll s).commands = s.commands := by
  simp [triggerStatusAll, State.mapPorts]
@[simp] theorem triggerStatusAll_instant (s : State) :
    (triggerStatusAll s).instant = s.instant := by
  simp [triggerStatusAll, State.mapPorts]
@[simp] theorem triggerStatusAll_pending (s : State) :
    (triggerStatusAll s).pending = s.pending := by
  simp [triggerStatusAll, State.mapPorts]

@[simp] theorem markLinkError_lines (p : Port) (s : State) :
    (markLinkError p s).lines = s.lines := by
  simp [markLinkError, State.withPort]
@[simp] theorem markLinkError_mode (p : Port) (s : State) : (markLinkError p s).mode = s.mode := by
  simp [markLinkError, State.withPort]
@[simp] theorem markLinkError_params (p : Port) (s : State) :
    (markLinkError p s).params = s.params := by
  simp [markLinkError, State.withPort]
@[simp] theorem markLinkError_maps (p : Port) (s : State) : (markLinkError p s).maps = s.maps := by
  simp [markLinkError, State.withPort]
@[simp] theorem markLinkError_demand (p : Port) (s : State) :
    (markLinkError p s).demand = s.demand := by
  simp [markLinkError, State.withPort]
@[simp] theorem markLinkError_axles (p : Port) (s : State) :
    (markLinkError p s).axles = s.axles := by
  simp [markLinkError, State.withPort]
@[simp] theorem markLinkError_reference (p : Port) (s : State) :
    (markLinkError p s).reference = s.reference := by
  simp [markLinkError, State.withPort]
@[simp] theorem markLinkError_supervisor (p : Port) (s : State) :
    (markLinkError p s).supervisor = s.supervisor := by
  simp [markLinkError, State.withPort]
@[simp] theorem markLinkError_table (p : Port) (s : State) :
    (markLinkError p s).table = s.table := by
  simp [markLinkError, State.withPort]
@[simp] theorem markLinkError_queue (p : Port) (s : State) :
    (markLinkError p s).queue = s.queue := by
  simp [markLinkError, State.withPort]
@[simp] theorem markLinkError_faults (p : Port) (s : State) :
    (markLinkError p s).faults = s.faults := by
  simp [markLinkError, State.withPort]
@[simp] theorem markLinkError_engine (p : Port) (s : State) :
    (markLinkError p s).engine = s.engine := by
  simp [markLinkError, State.withPort]
@[simp] theorem markLinkError_commands (p : Port) (s : State) :
    (markLinkError p s).commands = s.commands := by
  simp [markLinkError, State.withPort]
@[simp] theorem markLinkError_instant (p : Port) (s : State) :
    (markLinkError p s).instant = s.instant := by
  simp [markLinkError, State.withPort]
@[simp] theorem markLinkError_pending (p : Port) (s : State) :
    (markLinkError p s).pending = s.pending := by
  simp [markLinkError, State.withPort]

@[simp] theorem markOverrun_lines (p : Port) (s : State) : (markOverrun p s).lines = s.lines := by
  simp [markOverrun, State.withPort]
@[simp] theorem markOverrun_mode (p : Port) (s : State) : (markOverrun p s).mode = s.mode := by
  simp [markOverrun, State.withPort]
@[simp] theorem markOverrun_params (p : Port) (s : State) :
    (markOverrun p s).params = s.params := by
  simp [markOverrun, State.withPort]
@[simp] theorem markOverrun_maps (p : Port) (s : State) : (markOverrun p s).maps = s.maps := by
  simp [markOverrun, State.withPort]
@[simp] theorem markOverrun_demand (p : Port) (s : State) :
    (markOverrun p s).demand = s.demand := by
  simp [markOverrun, State.withPort]
@[simp] theorem markOverrun_axles (p : Port) (s : State) : (markOverrun p s).axles = s.axles := by
  simp [markOverrun, State.withPort]
@[simp] theorem markOverrun_reference (p : Port) (s : State) :
    (markOverrun p s).reference = s.reference := by
  simp [markOverrun, State.withPort]
@[simp] theorem markOverrun_supervisor (p : Port) (s : State) :
    (markOverrun p s).supervisor = s.supervisor := by
  simp [markOverrun, State.withPort]
@[simp] theorem markOverrun_table (p : Port) (s : State) : (markOverrun p s).table = s.table := by
  simp [markOverrun, State.withPort]
@[simp] theorem markOverrun_queue (p : Port) (s : State) : (markOverrun p s).queue = s.queue := by
  simp [markOverrun, State.withPort]
@[simp] theorem markOverrun_faults (p : Port) (s : State) :
    (markOverrun p s).faults = s.faults := by
  simp [markOverrun, State.withPort]
@[simp] theorem markOverrun_engine (p : Port) (s : State) :
    (markOverrun p s).engine = s.engine := by
  simp [markOverrun, State.withPort]
@[simp] theorem markOverrun_commands (p : Port) (s : State) :
    (markOverrun p s).commands = s.commands := by
  simp [markOverrun, State.withPort]
@[simp] theorem markOverrun_instant (p : Port) (s : State) :
    (markOverrun p s).instant = s.instant := by
  simp [markOverrun, State.withPort]
@[simp] theorem markOverrun_pending (p : Port) (s : State) :
    (markOverrun p s).pending = s.pending := by
  simp [markOverrun, State.withPort]

@[simp] theorem markClamped_lines (p : Port) (s : State) : (markClamped p s).lines = s.lines := by
  simp [markClamped, State.withPort]
@[simp] theorem markClamped_mode (p : Port) (s : State) : (markClamped p s).mode = s.mode := by
  simp [markClamped, State.withPort]
@[simp] theorem markClamped_params (p : Port) (s : State) :
    (markClamped p s).params = s.params := by
  simp [markClamped, State.withPort]
@[simp] theorem markClamped_maps (p : Port) (s : State) : (markClamped p s).maps = s.maps := by
  simp [markClamped, State.withPort]
@[simp] theorem markClamped_demand (p : Port) (s : State) :
    (markClamped p s).demand = s.demand := by
  simp [markClamped, State.withPort]
@[simp] theorem markClamped_axles (p : Port) (s : State) : (markClamped p s).axles = s.axles := by
  simp [markClamped, State.withPort]
@[simp] theorem markClamped_reference (p : Port) (s : State) :
    (markClamped p s).reference = s.reference := by
  simp [markClamped, State.withPort]
@[simp] theorem markClamped_supervisor (p : Port) (s : State) :
    (markClamped p s).supervisor = s.supervisor := by
  simp [markClamped, State.withPort]
@[simp] theorem markClamped_table (p : Port) (s : State) : (markClamped p s).table = s.table := by
  simp [markClamped, State.withPort]
@[simp] theorem markClamped_queue (p : Port) (s : State) : (markClamped p s).queue = s.queue := by
  simp [markClamped, State.withPort]
@[simp] theorem markClamped_faults (p : Port) (s : State) :
    (markClamped p s).faults = s.faults := by
  simp [markClamped, State.withPort]
@[simp] theorem markClamped_engine (p : Port) (s : State) :
    (markClamped p s).engine = s.engine := by
  simp [markClamped, State.withPort]
@[simp] theorem markClamped_commands (p : Port) (s : State) :
    (markClamped p s).commands = s.commands := by
  simp [markClamped, State.withPort]
@[simp] theorem markClamped_instant (p : Port) (s : State) :
    (markClamped p s).instant = s.instant := by
  simp [markClamped, State.withPort]
@[simp] theorem markClamped_pending (p : Port) (s : State) :
    (markClamped p s).pending = s.pending := by
  simp [markClamped, State.withPort]

@[simp] theorem markFaultAll_lines (f : FaultId) (s : State) :
    (markFaultAll f s).lines = s.lines := by
  simp [markFaultAll, State.mapPorts]
@[simp] theorem markFaultAll_mode (f : FaultId) (s : State) : (markFaultAll f s).mode = s.mode := by
  simp [markFaultAll, State.mapPorts]
@[simp] theorem markFaultAll_params (f : FaultId) (s : State) :
    (markFaultAll f s).params = s.params := by
  simp [markFaultAll, State.mapPorts]
@[simp] theorem markFaultAll_maps (f : FaultId) (s : State) : (markFaultAll f s).maps = s.maps := by
  simp [markFaultAll, State.mapPorts]
@[simp] theorem markFaultAll_demand (f : FaultId) (s : State) :
    (markFaultAll f s).demand = s.demand := by
  simp [markFaultAll, State.mapPorts]
@[simp] theorem markFaultAll_axles (f : FaultId) (s : State) :
    (markFaultAll f s).axles = s.axles := by
  simp [markFaultAll, State.mapPorts]
@[simp] theorem markFaultAll_reference (f : FaultId) (s : State) :
    (markFaultAll f s).reference = s.reference := by
  simp [markFaultAll, State.mapPorts]
@[simp] theorem markFaultAll_supervisor (f : FaultId) (s : State) :
    (markFaultAll f s).supervisor = s.supervisor := by
  simp [markFaultAll, State.mapPorts]
@[simp] theorem markFaultAll_table (f : FaultId) (s : State) :
    (markFaultAll f s).table = s.table := by
  simp [markFaultAll, State.mapPorts]
@[simp] theorem markFaultAll_queue (f : FaultId) (s : State) :
    (markFaultAll f s).queue = s.queue := by
  simp [markFaultAll, State.mapPorts]
@[simp] theorem markFaultAll_faults (f : FaultId) (s : State) :
    (markFaultAll f s).faults = s.faults := by
  simp [markFaultAll, State.mapPorts]
@[simp] theorem markFaultAll_engine (f : FaultId) (s : State) :
    (markFaultAll f s).engine = s.engine := by
  simp [markFaultAll, State.mapPorts]
@[simp] theorem markFaultAll_commands (f : FaultId) (s : State) :
    (markFaultAll f s).commands = s.commands := by
  simp [markFaultAll, State.mapPorts]
@[simp] theorem markFaultAll_instant (f : FaultId) (s : State) :
    (markFaultAll f s).instant = s.instant := by
  simp [markFaultAll, State.mapPorts]
@[simp] theorem markFaultAll_pending (f : FaultId) (s : State) :
    (markFaultAll f s).pending = s.pending := by
  simp [markFaultAll, State.mapPorts]

@[simp] theorem placeReply_lines (p : Port) (r : Reply) (s : State) :
    (placeReply p r s).lines = s.lines := by
  simp [placeReply, State.withPort]
@[simp] theorem placeReply_mode (p : Port) (r : Reply) (s : State) :
    (placeReply p r s).mode = s.mode := by
  simp [placeReply, State.withPort]
@[simp] theorem placeReply_params (p : Port) (r : Reply) (s : State) :
    (placeReply p r s).params = s.params := by
  simp [placeReply, State.withPort]
@[simp] theorem placeReply_maps (p : Port) (r : Reply) (s : State) :
    (placeReply p r s).maps = s.maps := by
  simp [placeReply, State.withPort]
@[simp] theorem placeReply_demand (p : Port) (r : Reply) (s : State) :
    (placeReply p r s).demand = s.demand := by
  simp [placeReply, State.withPort]
@[simp] theorem placeReply_axles (p : Port) (r : Reply) (s : State) :
    (placeReply p r s).axles = s.axles := by
  simp [placeReply, State.withPort]
@[simp] theorem placeReply_reference (p : Port) (r : Reply) (s : State) :
    (placeReply p r s).reference = s.reference := by
  simp [placeReply, State.withPort]
@[simp] theorem placeReply_supervisor (p : Port) (r : Reply) (s : State) :
    (placeReply p r s).supervisor = s.supervisor := by
  simp [placeReply, State.withPort]
@[simp] theorem placeReply_table (p : Port) (r : Reply) (s : State) :
    (placeReply p r s).table = s.table := by
  simp [placeReply, State.withPort]
@[simp] theorem placeReply_queue (p : Port) (r : Reply) (s : State) :
    (placeReply p r s).queue = s.queue := by
  simp [placeReply, State.withPort]
@[simp] theorem placeReply_faults (p : Port) (r : Reply) (s : State) :
    (placeReply p r s).faults = s.faults := by
  simp [placeReply, State.withPort]
@[simp] theorem placeReply_engine (p : Port) (r : Reply) (s : State) :
    (placeReply p r s).engine = s.engine := by
  simp [placeReply, State.withPort]
@[simp] theorem placeReply_commands (p : Port) (r : Reply) (s : State) :
    (placeReply p r s).commands = s.commands := by
  simp [placeReply, State.withPort]
@[simp] theorem placeReply_instant (p : Port) (r : Reply) (s : State) :
    (placeReply p r s).instant = s.instant := by
  simp [placeReply, State.withPort]
@[simp] theorem placeReply_pending (p : Port) (r : Reply) (s : State) :
    (placeReply p r s).pending = s.pending := by
  simp [placeReply, State.withPort]

@[simp] theorem setReceiver_lines (p : Port) (r : Receiver) (s : State) :
    (setReceiver p r s).lines = s.lines := by
  simp [setReceiver, State.withPort]
@[simp] theorem setReceiver_mode (p : Port) (r : Receiver) (s : State) :
    (setReceiver p r s).mode = s.mode := by
  simp [setReceiver, State.withPort]
@[simp] theorem setReceiver_params (p : Port) (r : Receiver) (s : State) :
    (setReceiver p r s).params = s.params := by
  simp [setReceiver, State.withPort]
@[simp] theorem setReceiver_maps (p : Port) (r : Receiver) (s : State) :
    (setReceiver p r s).maps = s.maps := by
  simp [setReceiver, State.withPort]
@[simp] theorem setReceiver_demand (p : Port) (r : Receiver) (s : State) :
    (setReceiver p r s).demand = s.demand := by
  simp [setReceiver, State.withPort]
@[simp] theorem setReceiver_axles (p : Port) (r : Receiver) (s : State) :
    (setReceiver p r s).axles = s.axles := by
  simp [setReceiver, State.withPort]
@[simp] theorem setReceiver_reference (p : Port) (r : Receiver) (s : State) :
    (setReceiver p r s).reference = s.reference := by
  simp [setReceiver, State.withPort]
@[simp] theorem setReceiver_supervisor (p : Port) (r : Receiver) (s : State) :
    (setReceiver p r s).supervisor = s.supervisor := by
  simp [setReceiver, State.withPort]
@[simp] theorem setReceiver_table (p : Port) (r : Receiver) (s : State) :
    (setReceiver p r s).table = s.table := by
  simp [setReceiver, State.withPort]
@[simp] theorem setReceiver_queue (p : Port) (r : Receiver) (s : State) :
    (setReceiver p r s).queue = s.queue := by
  simp [setReceiver, State.withPort]
@[simp] theorem setReceiver_faults (p : Port) (r : Receiver) (s : State) :
    (setReceiver p r s).faults = s.faults := by
  simp [setReceiver, State.withPort]
@[simp] theorem setReceiver_engine (p : Port) (r : Receiver) (s : State) :
    (setReceiver p r s).engine = s.engine := by
  simp [setReceiver, State.withPort]
@[simp] theorem setReceiver_commands (p : Port) (r : Receiver) (s : State) :
    (setReceiver p r s).commands = s.commands := by
  simp [setReceiver, State.withPort]
@[simp] theorem setReceiver_instant (p : Port) (r : Receiver) (s : State) :
    (setReceiver p r s).instant = s.instant := by
  simp [setReceiver, State.withPort]
@[simp] theorem setReceiver_pending (p : Port) (r : Receiver) (s : State) :
    (setReceiver p r s).pending = s.pending := by
  simp [setReceiver, State.withPort]

@[simp] theorem abortQueue_lines (s : State) : (abortQueue s).lines = s.lines := by
  simp [abortQueue]
@[simp] theorem abortQueue_mode (s : State) : (abortQueue s).mode = s.mode := by
  simp [abortQueue]
@[simp] theorem abortQueue_params (s : State) : (abortQueue s).params = s.params := by
  simp [abortQueue]
@[simp] theorem abortQueue_maps (s : State) : (abortQueue s).maps = s.maps := by
  simp [abortQueue]
@[simp] theorem abortQueue_demand (s : State) : (abortQueue s).demand = s.demand := by
  simp [abortQueue]
@[simp] theorem abortQueue_axles (s : State) : (abortQueue s).axles = s.axles := by
  simp [abortQueue]
@[simp] theorem abortQueue_reference (s : State) : (abortQueue s).reference = s.reference := by
  simp [abortQueue]
@[simp] theorem abortQueue_supervisor (s : State) : (abortQueue s).supervisor = s.supervisor := by
  simp [abortQueue]
@[simp] theorem abortQueue_table (s : State) : (abortQueue s).table = s.table := by
  simp [abortQueue]
@[simp] theorem abortQueue_faults (s : State) : (abortQueue s).faults = s.faults := by
  simp [abortQueue]
@[simp] theorem abortQueue_engine (s : State) : (abortQueue s).engine = s.engine := by
  simp [abortQueue]
@[simp] theorem abortQueue_commands (s : State) : (abortQueue s).commands = s.commands := by
  simp [abortQueue]
@[simp] theorem abortQueue_ports (s : State) : (abortQueue s).ports = s.ports := by
  simp [abortQueue]
@[simp] theorem abortQueue_instant (s : State) : (abortQueue s).instant = s.instant := by
  simp [abortQueue]
@[simp] theorem abortQueue_pending (s : State) : (abortQueue s).pending = s.pending := by
  simp [abortQueue]

@[simp] theorem reevaluateLine_mode (s : State) : (reevaluateLine s).mode = s.mode := by
  simp [reevaluateLine]
@[simp] theorem reevaluateLine_params (s : State) : (reevaluateLine s).params = s.params := by
  simp [reevaluateLine]
@[simp] theorem reevaluateLine_maps (s : State) : (reevaluateLine s).maps = s.maps := by
  simp [reevaluateLine]
@[simp] theorem reevaluateLine_demand (s : State) : (reevaluateLine s).demand = s.demand := by
  simp [reevaluateLine]
@[simp] theorem reevaluateLine_axles (s : State) : (reevaluateLine s).axles = s.axles := by
  simp [reevaluateLine]
@[simp] theorem reevaluateLine_reference (s : State) :
    (reevaluateLine s).reference = s.reference := by
  simp [reevaluateLine]
@[simp] theorem reevaluateLine_supervisor (s : State) :
    (reevaluateLine s).supervisor = s.supervisor := by
  simp [reevaluateLine]
@[simp] theorem reevaluateLine_table (s : State) : (reevaluateLine s).table = s.table := by
  simp [reevaluateLine]
@[simp] theorem reevaluateLine_queue (s : State) : (reevaluateLine s).queue = s.queue := by
  simp [reevaluateLine]
@[simp] theorem reevaluateLine_faults (s : State) : (reevaluateLine s).faults = s.faults := by
  simp [reevaluateLine]
@[simp] theorem reevaluateLine_engine (s : State) : (reevaluateLine s).engine = s.engine := by
  simp [reevaluateLine]
@[simp] theorem reevaluateLine_commands (s : State) : (reevaluateLine s).commands = s.commands := by
  simp [reevaluateLine]
@[simp] theorem reevaluateLine_ports (s : State) : (reevaluateLine s).ports = s.ports := by
  simp [reevaluateLine]
@[simp] theorem reevaluateLine_instant (s : State) : (reevaluateLine s).instant = s.instant := by
  simp [reevaluateLine]
@[simp] theorem reevaluateLine_pending (s : State) : (reevaluateLine s).pending = s.pending := by
  simp [reevaluateLine]
@[simp] theorem reevaluateLine_lines_reset (s : State) :
    (reevaluateLine s).lines.reset = s.lines.reset := by
  simp [reevaluateLine]
@[simp] theorem reevaluateLine_lines_shutoff (s : State) :
    (reevaluateLine s).lines.shutoff = s.lines.shutoff := by
  simp [reevaluateLine]

@[simp] theorem setFault_lines (f : FaultId) (r : FaultRecord) (s : State) :
    (setFault f r s).lines = s.lines := by
  simp [setFault]
@[simp] theorem setFault_mode (f : FaultId) (r : FaultRecord) (s : State) :
    (setFault f r s).mode = s.mode := by
  simp [setFault]
@[simp] theorem setFault_params (f : FaultId) (r : FaultRecord) (s : State) :
    (setFault f r s).params = s.params := by
  simp [setFault]
@[simp] theorem setFault_maps (f : FaultId) (r : FaultRecord) (s : State) :
    (setFault f r s).maps = s.maps := by
  simp [setFault]
@[simp] theorem setFault_demand (f : FaultId) (r : FaultRecord) (s : State) :
    (setFault f r s).demand = s.demand := by
  simp [setFault]
@[simp] theorem setFault_axles (f : FaultId) (r : FaultRecord) (s : State) :
    (setFault f r s).axles = s.axles := by
  simp [setFault]
@[simp] theorem setFault_reference (f : FaultId) (r : FaultRecord) (s : State) :
    (setFault f r s).reference = s.reference := by
  simp [setFault]
@[simp] theorem setFault_supervisor (f : FaultId) (r : FaultRecord) (s : State) :
    (setFault f r s).supervisor = s.supervisor := by
  simp [setFault]
@[simp] theorem setFault_table (f : FaultId) (r : FaultRecord) (s : State) :
    (setFault f r s).table = s.table := by
  simp [setFault]
@[simp] theorem setFault_queue (f : FaultId) (r : FaultRecord) (s : State) :
    (setFault f r s).queue = s.queue := by
  simp [setFault]
@[simp] theorem setFault_engine (f : FaultId) (r : FaultRecord) (s : State) :
    (setFault f r s).engine = s.engine := by
  simp [setFault]
@[simp] theorem setFault_commands (f : FaultId) (r : FaultRecord) (s : State) :
    (setFault f r s).commands = s.commands := by
  simp [setFault]
@[simp] theorem setFault_ports (f : FaultId) (r : FaultRecord) (s : State) :
    (setFault f r s).ports = s.ports := by
  simp [setFault]
@[simp] theorem setFault_instant (f : FaultId) (r : FaultRecord) (s : State) :
    (setFault f r s).instant = s.instant := by
  simp [setFault]
@[simp] theorem setFault_pending (f : FaultId) (r : FaultRecord) (s : State) :
    (setFault f r s).pending = s.pending := by
  simp [setFault]

@[simp] theorem clearFault_mode (f : FaultId) (s : State) : (clearFault f s).mode = s.mode := by
  simp [clearFault]
@[simp] theorem clearFault_params (f : FaultId) (s : State) :
    (clearFault f s).params = s.params := by
  simp [clearFault]
@[simp] theorem clearFault_maps (f : FaultId) (s : State) : (clearFault f s).maps = s.maps := by
  simp [clearFault]
@[simp] theorem clearFault_demand (f : FaultId) (s : State) :
    (clearFault f s).demand = s.demand := by
  simp [clearFault]
@[simp] theorem clearFault_axles (f : FaultId) (s : State) : (clearFault f s).axles = s.axles := by
  simp [clearFault]
@[simp] theorem clearFault_reference (f : FaultId) (s : State) :
    (clearFault f s).reference = s.reference := by
  simp [clearFault]
@[simp] theorem clearFault_supervisor (f : FaultId) (s : State) :
    (clearFault f s).supervisor = s.supervisor := by
  simp [clearFault]
@[simp] theorem clearFault_table (f : FaultId) (s : State) : (clearFault f s).table = s.table := by
  simp [clearFault]
@[simp] theorem clearFault_queue (f : FaultId) (s : State) : (clearFault f s).queue = s.queue := by
  simp [clearFault]
@[simp] theorem clearFault_engine (f : FaultId) (s : State) :
    (clearFault f s).engine = s.engine := by
  simp [clearFault]
@[simp] theorem clearFault_commands (f : FaultId) (s : State) :
    (clearFault f s).commands = s.commands := by
  simp [clearFault]
@[simp] theorem clearFault_ports (f : FaultId) (s : State) : (clearFault f s).ports = s.ports := by
  simp [clearFault]
@[simp] theorem clearFault_instant (f : FaultId) (s : State) :
    (clearFault f s).instant = s.instant := by
  simp [clearFault]
@[simp] theorem clearFault_pending (f : FaultId) (s : State) :
    (clearFault f s).pending = s.pending := by
  simp [clearFault]
@[simp] theorem clearFault_lines_reset (f : FaultId) (s : State) :
    (clearFault f s).lines.reset = s.lines.reset := by
  simp [clearFault]
@[simp] theorem clearFault_lines_shutoff (f : FaultId) (s : State) :
    (clearFault f s).lines.shutoff = s.lines.shutoff := by
  simp [clearFault]

@[simp] theorem enterFault_mode (f : FaultId) (s : State) : (enterFault f s).mode = s.mode := by
  unfold enterFault; dsimp only; split <;> simp
@[simp] theorem enterFault_params (f : FaultId) (s : State) :
    (enterFault f s).params = s.params := by
  unfold enterFault; dsimp only; split <;> simp
@[simp] theorem enterFault_maps (f : FaultId) (s : State) : (enterFault f s).maps = s.maps := by
  unfold enterFault; dsimp only; split <;> simp
@[simp] theorem enterFault_demand (f : FaultId) (s : State) :
    (enterFault f s).demand = s.demand := by
  unfold enterFault; dsimp only; split <;> simp
@[simp] theorem enterFault_axles (f : FaultId) (s : State) : (enterFault f s).axles = s.axles := by
  unfold enterFault; dsimp only; split <;> simp
@[simp] theorem enterFault_reference (f : FaultId) (s : State) :
    (enterFault f s).reference = s.reference := by
  unfold enterFault; dsimp only; split <;> simp
@[simp] theorem enterFault_supervisor (f : FaultId) (s : State) :
    (enterFault f s).supervisor = s.supervisor := by
  unfold enterFault; dsimp only; split <;> simp
@[simp] theorem enterFault_table (f : FaultId) (s : State) : (enterFault f s).table = s.table := by
  unfold enterFault; dsimp only; split <;> simp
@[simp] theorem enterFault_engine (f : FaultId) (s : State) :
    (enterFault f s).engine = s.engine := by
  unfold enterFault; dsimp only; split <;> simp
@[simp] theorem enterFault_commands (f : FaultId) (s : State) :
    (enterFault f s).commands = s.commands := by
  unfold enterFault; dsimp only; split <;> simp
@[simp] theorem enterFault_instant (f : FaultId) (s : State) :
    (enterFault f s).instant = s.instant := by
  unfold enterFault; dsimp only; split <;> simp
@[simp] theorem enterFault_pending (f : FaultId) (s : State) :
    (enterFault f s).pending = s.pending := by
  unfold enterFault; dsimp only; split <;> simp
@[simp] theorem enterFault_lines_reset (f : FaultId) (s : State) :
    (enterFault f s).lines.reset = s.lines.reset := by
  unfold enterFault; dsimp only; split <;> simp
@[simp] theorem enterFault_lines_shutoff (f : FaultId) (s : State) :
    (enterFault f s).lines.shutoff = s.lines.shutoff := by
  unfold enterFault; dsimp only; split <;> simp

@[simp] theorem staleEvent_mode (p : Port) (s : State) : (staleEvent p s).mode = s.mode := by
  unfold staleEvent; split <;> simp
@[simp] theorem staleEvent_params (p : Port) (s : State) : (staleEvent p s).params = s.params := by
  unfold staleEvent; split <;> simp
@[simp] theorem staleEvent_maps (p : Port) (s : State) : (staleEvent p s).maps = s.maps := by
  unfold staleEvent; split <;> simp
@[simp] theorem staleEvent_demand (p : Port) (s : State) : (staleEvent p s).demand = s.demand := by
  unfold staleEvent; split <;> simp
@[simp] theorem staleEvent_axles (p : Port) (s : State) : (staleEvent p s).axles = s.axles := by
  unfold staleEvent; split <;> simp
@[simp] theorem staleEvent_reference (p : Port) (s : State) :
    (staleEvent p s).reference = s.reference := by
  unfold staleEvent; split <;> simp
@[simp] theorem staleEvent_supervisor (p : Port) (s : State) :
    (staleEvent p s).supervisor = s.supervisor := by
  unfold staleEvent; split <;> simp
@[simp] theorem staleEvent_table (p : Port) (s : State) : (staleEvent p s).table = s.table := by
  unfold staleEvent; split <;> simp
@[simp] theorem staleEvent_engine (p : Port) (s : State) : (staleEvent p s).engine = s.engine := by
  unfold staleEvent; split <;> simp
@[simp] theorem staleEvent_commands (p : Port) (s : State) :
    (staleEvent p s).commands = s.commands := by
  unfold staleEvent; split <;> simp
@[simp] theorem staleEvent_instant (p : Port) (s : State) :
    (staleEvent p s).instant = s.instant := by
  unfold staleEvent; split <;> simp
@[simp] theorem staleEvent_pending (p : Port) (s : State) :
    (staleEvent p s).pending = s.pending := by
  unfold staleEvent; split <;> simp
@[simp] theorem staleEvent_lines_reset (p : Port) (s : State) :
    (staleEvent p s).lines.reset = s.lines.reset := by
  unfold staleEvent; split <;> simp
@[simp] theorem staleEvent_lines_shutoff (p : Port) (s : State) :
    (staleEvent p s).lines.shutoff = s.lines.shutoff := by
  unfold staleEvent; split <;> simp

@[simp] theorem freshEvent_mode (p : Port) (s : State) : (freshEvent p s).mode = s.mode := by
  unfold freshEvent; split <;> simp
@[simp] theorem freshEvent_params (p : Port) (s : State) : (freshEvent p s).params = s.params := by
  unfold freshEvent; split <;> simp
@[simp] theorem freshEvent_maps (p : Port) (s : State) : (freshEvent p s).maps = s.maps := by
  unfold freshEvent; split <;> simp
@[simp] theorem freshEvent_demand (p : Port) (s : State) : (freshEvent p s).demand = s.demand := by
  unfold freshEvent; split <;> simp
@[simp] theorem freshEvent_axles (p : Port) (s : State) : (freshEvent p s).axles = s.axles := by
  unfold freshEvent; split <;> simp
@[simp] theorem freshEvent_reference (p : Port) (s : State) :
    (freshEvent p s).reference = s.reference := by
  unfold freshEvent; split <;> simp
@[simp] theorem freshEvent_supervisor (p : Port) (s : State) :
    (freshEvent p s).supervisor = s.supervisor := by
  unfold freshEvent; split <;> simp
@[simp] theorem freshEvent_table (p : Port) (s : State) : (freshEvent p s).table = s.table := by
  unfold freshEvent; split <;> simp
@[simp] theorem freshEvent_queue (p : Port) (s : State) : (freshEvent p s).queue = s.queue := by
  unfold freshEvent; split <;> simp
@[simp] theorem freshEvent_engine (p : Port) (s : State) : (freshEvent p s).engine = s.engine := by
  unfold freshEvent; split <;> simp
@[simp] theorem freshEvent_commands (p : Port) (s : State) :
    (freshEvent p s).commands = s.commands := by
  unfold freshEvent; split <;> simp
@[simp] theorem freshEvent_ports (p : Port) (s : State) : (freshEvent p s).ports = s.ports := by
  unfold freshEvent; split <;> simp
@[simp] theorem freshEvent_instant (p : Port) (s : State) :
    (freshEvent p s).instant = s.instant := by
  unfold freshEvent; split <;> simp
@[simp] theorem freshEvent_pending (p : Port) (s : State) :
    (freshEvent p s).pending = s.pending := by
  unfold freshEvent; split <;> simp
@[simp] theorem freshEvent_lines_reset (p : Port) (s : State) :
    (freshEvent p s).lines.reset = s.lines.reset := by
  unfold freshEvent; split <;> simp
@[simp] theorem freshEvent_lines_shutoff (p : Port) (s : State) :
    (freshEvent p s).lines.shutoff = s.lines.shutoff := by
  unfold freshEvent; split <;> simp

@[simp] theorem setDeadline_lines (p : Port) (d : Deadline) (s : State) :
    (setDeadline p d s).lines = s.lines := by
  simp [setDeadline]
@[simp] theorem setDeadline_mode (p : Port) (d : Deadline) (s : State) :
    (setDeadline p d s).mode = s.mode := by
  simp [setDeadline]
@[simp] theorem setDeadline_params (p : Port) (d : Deadline) (s : State) :
    (setDeadline p d s).params = s.params := by
  simp [setDeadline]
@[simp] theorem setDeadline_maps (p : Port) (d : Deadline) (s : State) :
    (setDeadline p d s).maps = s.maps := by
  simp [setDeadline]
@[simp] theorem setDeadline_demand (p : Port) (d : Deadline) (s : State) :
    (setDeadline p d s).demand = s.demand := by
  simp [setDeadline]
@[simp] theorem setDeadline_axles (p : Port) (d : Deadline) (s : State) :
    (setDeadline p d s).axles = s.axles := by
  simp [setDeadline]
@[simp] theorem setDeadline_reference (p : Port) (d : Deadline) (s : State) :
    (setDeadline p d s).reference = s.reference := by
  simp [setDeadline]
@[simp] theorem setDeadline_table (p : Port) (d : Deadline) (s : State) :
    (setDeadline p d s).table = s.table := by
  simp [setDeadline]
@[simp] theorem setDeadline_queue (p : Port) (d : Deadline) (s : State) :
    (setDeadline p d s).queue = s.queue := by
  simp [setDeadline]
@[simp] theorem setDeadline_faults (p : Port) (d : Deadline) (s : State) :
    (setDeadline p d s).faults = s.faults := by
  simp [setDeadline]
@[simp] theorem setDeadline_engine (p : Port) (d : Deadline) (s : State) :
    (setDeadline p d s).engine = s.engine := by
  simp [setDeadline]
@[simp] theorem setDeadline_commands (p : Port) (d : Deadline) (s : State) :
    (setDeadline p d s).commands = s.commands := by
  simp [setDeadline]
@[simp] theorem setDeadline_ports (p : Port) (d : Deadline) (s : State) :
    (setDeadline p d s).ports = s.ports := by
  simp [setDeadline]
@[simp] theorem setDeadline_instant (p : Port) (d : Deadline) (s : State) :
    (setDeadline p d s).instant = s.instant := by
  simp [setDeadline]
@[simp] theorem setDeadline_pending (p : Port) (d : Deadline) (s : State) :
    (setDeadline p d s).pending = s.pending := by
  simp [setDeadline]

@[simp] theorem refreshPort_mode (p : Port) (s : State) : (refreshPort p s).mode = s.mode := by
  unfold refreshPort; repeat' split
  all_goals simp
@[simp] theorem refreshPort_params (p : Port) (s : State) :
    (refreshPort p s).params = s.params := by
  unfold refreshPort; repeat' split
  all_goals simp
@[simp] theorem refreshPort_maps (p : Port) (s : State) : (refreshPort p s).maps = s.maps := by
  unfold refreshPort; repeat' split
  all_goals simp
@[simp] theorem refreshPort_demand (p : Port) (s : State) :
    (refreshPort p s).demand = s.demand := by
  unfold refreshPort; repeat' split
  all_goals simp
@[simp] theorem refreshPort_axles (p : Port) (s : State) : (refreshPort p s).axles = s.axles := by
  unfold refreshPort; repeat' split
  all_goals simp
@[simp] theorem refreshPort_reference (p : Port) (s : State) :
    (refreshPort p s).reference = s.reference := by
  unfold refreshPort; repeat' split
  all_goals simp
@[simp] theorem refreshPort_table (p : Port) (s : State) : (refreshPort p s).table = s.table := by
  unfold refreshPort; repeat' split
  all_goals simp
@[simp] theorem refreshPort_queue (p : Port) (s : State) : (refreshPort p s).queue = s.queue := by
  unfold refreshPort; repeat' split
  all_goals simp
@[simp] theorem refreshPort_engine (p : Port) (s : State) :
    (refreshPort p s).engine = s.engine := by
  unfold refreshPort; repeat' split
  all_goals simp
@[simp] theorem refreshPort_commands (p : Port) (s : State) :
    (refreshPort p s).commands = s.commands := by
  unfold refreshPort; repeat' split
  all_goals simp
@[simp] theorem refreshPort_ports (p : Port) (s : State) : (refreshPort p s).ports = s.ports := by
  unfold refreshPort; repeat' split
  all_goals simp
@[simp] theorem refreshPort_instant (p : Port) (s : State) :
    (refreshPort p s).instant = s.instant := by
  unfold refreshPort; repeat' split
  all_goals simp
@[simp] theorem refreshPort_pending (p : Port) (s : State) :
    (refreshPort p s).pending = s.pending := by
  unfold refreshPort; repeat' split
  all_goals simp
@[simp] theorem refreshPort_lines_reset (p : Port) (s : State) :
    (refreshPort p s).lines.reset = s.lines.reset := by
  unfold refreshPort; repeat' split
  all_goals simp
@[simp] theorem refreshPort_lines_shutoff (p : Port) (s : State) :
    (refreshPort p s).lines.shutoff = s.lines.shutoff := by
  unfold refreshPort; repeat' split
  all_goals simp

@[simp] theorem armSupervisor_lines (s : State) : (armSupervisor s).lines = s.lines := by
  simp [armSupervisor]
@[simp] theorem armSupervisor_mode (s : State) : (armSupervisor s).mode = s.mode := by
  simp [armSupervisor]
@[simp] theorem armSupervisor_params (s : State) : (armSupervisor s).params = s.params := by
  simp [armSupervisor]
@[simp] theorem armSupervisor_maps (s : State) : (armSupervisor s).maps = s.maps := by
  simp [armSupervisor]
@[simp] theorem armSupervisor_demand (s : State) : (armSupervisor s).demand = s.demand := by
  simp [armSupervisor]
@[simp] theorem armSupervisor_axles (s : State) : (armSupervisor s).axles = s.axles := by
  simp [armSupervisor]
@[simp] theorem armSupervisor_reference (s : State) :
    (armSupervisor s).reference = s.reference := by
  simp [armSupervisor]
@[simp] theorem armSupervisor_table (s : State) : (armSupervisor s).table = s.table := by
  simp [armSupervisor]
@[simp] theorem armSupervisor_queue (s : State) : (armSupervisor s).queue = s.queue := by
  simp [armSupervisor]
@[simp] theorem armSupervisor_faults (s : State) : (armSupervisor s).faults = s.faults := by
  simp [armSupervisor]
@[simp] theorem armSupervisor_engine (s : State) : (armSupervisor s).engine = s.engine := by
  simp [armSupervisor]
@[simp] theorem armSupervisor_commands (s : State) : (armSupervisor s).commands = s.commands := by
  simp [armSupervisor]
@[simp] theorem armSupervisor_ports (s : State) : (armSupervisor s).ports = s.ports := by
  simp [armSupervisor]
@[simp] theorem armSupervisor_instant (s : State) : (armSupervisor s).instant = s.instant := by
  simp [armSupervisor]
@[simp] theorem armSupervisor_pending (s : State) : (armSupervisor s).pending = s.pending := by
  simp [armSupervisor]

@[simp] theorem emptyCommandSlot_lines (p : Port) (s : State) :
    (emptyCommandSlot p s).lines = s.lines := by
  unfold emptyCommandSlot; split <;> simp
@[simp] theorem emptyCommandSlot_mode (p : Port) (s : State) :
    (emptyCommandSlot p s).mode = s.mode := by
  unfold emptyCommandSlot; split <;> simp
@[simp] theorem emptyCommandSlot_params (p : Port) (s : State) :
    (emptyCommandSlot p s).params = s.params := by
  unfold emptyCommandSlot; split <;> simp
@[simp] theorem emptyCommandSlot_maps (p : Port) (s : State) :
    (emptyCommandSlot p s).maps = s.maps := by
  unfold emptyCommandSlot; split <;> simp
@[simp] theorem emptyCommandSlot_demand (p : Port) (s : State) :
    (emptyCommandSlot p s).demand = s.demand := by
  unfold emptyCommandSlot; split <;> simp
@[simp] theorem emptyCommandSlot_axles (p : Port) (s : State) :
    (emptyCommandSlot p s).axles = s.axles := by
  unfold emptyCommandSlot; split <;> simp
@[simp] theorem emptyCommandSlot_reference (p : Port) (s : State) :
    (emptyCommandSlot p s).reference = s.reference := by
  unfold emptyCommandSlot; split <;> simp
@[simp] theorem emptyCommandSlot_supervisor (p : Port) (s : State) :
    (emptyCommandSlot p s).supervisor = s.supervisor := by
  unfold emptyCommandSlot; split <;> simp
@[simp] theorem emptyCommandSlot_table (p : Port) (s : State) :
    (emptyCommandSlot p s).table = s.table := by
  unfold emptyCommandSlot; split <;> simp
@[simp] theorem emptyCommandSlot_queue (p : Port) (s : State) :
    (emptyCommandSlot p s).queue = s.queue := by
  unfold emptyCommandSlot; split <;> simp
@[simp] theorem emptyCommandSlot_faults (p : Port) (s : State) :
    (emptyCommandSlot p s).faults = s.faults := by
  unfold emptyCommandSlot; split <;> simp
@[simp] theorem emptyCommandSlot_engine (p : Port) (s : State) :
    (emptyCommandSlot p s).engine = s.engine := by
  unfold emptyCommandSlot; split <;> simp
@[simp] theorem emptyCommandSlot_ports (p : Port) (s : State) :
    (emptyCommandSlot p s).ports = s.ports := by
  unfold emptyCommandSlot; split <;> simp
@[simp] theorem emptyCommandSlot_instant (p : Port) (s : State) :
    (emptyCommandSlot p s).instant = s.instant := by
  unfold emptyCommandSlot; split <;> simp
@[simp] theorem emptyCommandSlot_pending (p : Port) (s : State) :
    (emptyCommandSlot p s).pending = s.pending := by
  unfold emptyCommandSlot; split <;> simp

@[simp] theorem startTransmitter_lines (p : Port) (s : State) :
    (startTransmitter p s).lines = s.lines := by
  unfold startTransmitter; dsimp only; repeat' split
  all_goals simp [State.withPort]
@[simp] theorem startTransmitter_mode (p : Port) (s : State) :
    (startTransmitter p s).mode = s.mode := by
  unfold startTransmitter; dsimp only; repeat' split
  all_goals simp [State.withPort]
@[simp] theorem startTransmitter_params (p : Port) (s : State) :
    (startTransmitter p s).params = s.params := by
  unfold startTransmitter; dsimp only; repeat' split
  all_goals simp [State.withPort]
@[simp] theorem startTransmitter_maps (p : Port) (s : State) :
    (startTransmitter p s).maps = s.maps := by
  unfold startTransmitter; dsimp only; repeat' split
  all_goals simp [State.withPort]
@[simp] theorem startTransmitter_demand (p : Port) (s : State) :
    (startTransmitter p s).demand = s.demand := by
  unfold startTransmitter; dsimp only; repeat' split
  all_goals simp [State.withPort]
@[simp] theorem startTransmitter_axles (p : Port) (s : State) :
    (startTransmitter p s).axles = s.axles := by
  unfold startTransmitter; dsimp only; repeat' split
  all_goals simp [State.withPort]
@[simp] theorem startTransmitter_reference (p : Port) (s : State) :
    (startTransmitter p s).reference = s.reference := by
  unfold startTransmitter; dsimp only; repeat' split
  all_goals simp [State.withPort]
@[simp] theorem startTransmitter_supervisor (p : Port) (s : State) :
    (startTransmitter p s).supervisor = s.supervisor := by
  unfold startTransmitter; dsimp only; repeat' split
  all_goals simp [State.withPort]
@[simp] theorem startTransmitter_table (p : Port) (s : State) :
    (startTransmitter p s).table = s.table := by
  unfold startTransmitter; dsimp only; repeat' split
  all_goals simp [State.withPort]
@[simp] theorem startTransmitter_queue (p : Port) (s : State) :
    (startTransmitter p s).queue = s.queue := by
  unfold startTransmitter; dsimp only; repeat' split
  all_goals simp [State.withPort]
@[simp] theorem startTransmitter_faults (p : Port) (s : State) :
    (startTransmitter p s).faults = s.faults := by
  unfold startTransmitter; dsimp only; repeat' split
  all_goals simp [State.withPort]
@[simp] theorem startTransmitter_engine (p : Port) (s : State) :
    (startTransmitter p s).engine = s.engine := by
  unfold startTransmitter; dsimp only; repeat' split
  all_goals simp [State.withPort]
@[simp] theorem startTransmitter_instant (p : Port) (s : State) :
    (startTransmitter p s).instant = s.instant := by
  unfold startTransmitter; dsimp only; repeat' split
  all_goals simp [State.withPort]
@[simp] theorem startTransmitter_pending (p : Port) (s : State) :
    (startTransmitter p s).pending = s.pending := by
  unfold startTransmitter; dsimp only; repeat' split
  all_goals simp [State.withPort]

@[simp] theorem startTransmitters_lines (s : State) : (startTransmitters s).lines = s.lines := by
  simp [startTransmitters]
@[simp] theorem startTransmitters_mode (s : State) : (startTransmitters s).mode = s.mode := by
  simp [startTransmitters]
@[simp] theorem startTransmitters_params (s : State) : (startTransmitters s).params = s.params := by
  simp [startTransmitters]
@[simp] theorem startTransmitters_maps (s : State) : (startTransmitters s).maps = s.maps := by
  simp [startTransmitters]
@[simp] theorem startTransmitters_demand (s : State) : (startTransmitters s).demand = s.demand := by
  simp [startTransmitters]
@[simp] theorem startTransmitters_axles (s : State) : (startTransmitters s).axles = s.axles := by
  simp [startTransmitters]
@[simp] theorem startTransmitters_reference (s : State) :
    (startTransmitters s).reference = s.reference := by
  simp [startTransmitters]
@[simp] theorem startTransmitters_supervisor (s : State) :
    (startTransmitters s).supervisor = s.supervisor := by
  simp [startTransmitters]
@[simp] theorem startTransmitters_table (s : State) : (startTransmitters s).table = s.table := by
  simp [startTransmitters]
@[simp] theorem startTransmitters_queue (s : State) : (startTransmitters s).queue = s.queue := by
  simp [startTransmitters]
@[simp] theorem startTransmitters_faults (s : State) : (startTransmitters s).faults = s.faults := by
  simp [startTransmitters]
@[simp] theorem startTransmitters_engine (s : State) : (startTransmitters s).engine = s.engine := by
  simp [startTransmitters]
@[simp] theorem startTransmitters_instant (s : State) :
    (startTransmitters s).instant = s.instant := by
  simp [startTransmitters]
@[simp] theorem startTransmitters_pending (s : State) :
    (startTransmitters s).pending = s.pending := by
  simp [startTransmitters]

@[simp] theorem leave_lines (r : Remainder) (s : State) : (leave r s).lines = s.lines := by
  simp [leave]
@[simp] theorem leave_mode (r : Remainder) (s : State) : (leave r s).mode = s.mode := by
  simp [leave]
@[simp] theorem leave_params (r : Remainder) (s : State) : (leave r s).params = s.params := by
  simp [leave]
@[simp] theorem leave_maps (r : Remainder) (s : State) : (leave r s).maps = s.maps := by
  simp [leave]
@[simp] theorem leave_demand (r : Remainder) (s : State) : (leave r s).demand = s.demand := by
  simp [leave]
@[simp] theorem leave_axles (r : Remainder) (s : State) : (leave r s).axles = s.axles := by
  simp [leave]
@[simp] theorem leave_reference (r : Remainder) (s : State) :
    (leave r s).reference = s.reference := by
  simp [leave]
@[simp] theorem leave_supervisor (r : Remainder) (s : State) :
    (leave r s).supervisor = s.supervisor := by
  simp [leave]
@[simp] theorem leave_table (r : Remainder) (s : State) : (leave r s).table = s.table := by
  simp [leave]
@[simp] theorem leave_queue (r : Remainder) (s : State) : (leave r s).queue = s.queue := by
  simp [leave]
@[simp] theorem leave_faults (r : Remainder) (s : State) : (leave r s).faults = s.faults := by
  simp [leave]
@[simp] theorem leave_engine (r : Remainder) (s : State) : (leave r s).engine = s.engine := by
  simp [leave]
@[simp] theorem leave_commands (r : Remainder) (s : State) : (leave r s).commands = s.commands := by
  simp [leave]
@[simp] theorem leave_ports (r : Remainder) (s : State) : (leave r s).ports = s.ports := by
  simp [leave]
@[simp] theorem leave_pending (r : Remainder) (s : State) : (leave r s).pending = s.pending := by
  simp [leave]

end Sys2Proof.Machine
end

