-- ==== Sys2Proof/Laws/Transmit.lean ====
section
/-! SUPPORT. What transmit arbitration (spec 11, R176) does, said once: each port on its own, by the three
slots' rank; nothing where every idle transmitter has nothing waiting. -/
namespace Sys2Proof.Machine

theorem PerPort.set_get {α : Type} (x : PerPort α) (p : Port) : x.set p (x.get p) = x := by
  cases p <;> rfl

theorem PerPort.set_set {α : Type} (x : PerPort α) (p : Port) (a b : α) :
    (x.set p a).set p b = x.set p b := by
  cases p <;> rfl

theorem State.withPort_port_self (s : State) (p : Port) : s.withPort p (s.port p) = s := by
  simp only [State.withPort, State.withPorts, State.port, PerPort.set_get]

@[simp] theorem State.withPort_withPort (s : State) (p : Port) (a b : LinkPort) :
    (s.withPort p a).withPort p b = s.withPort p b := by
  simp only [State.withPort, State.withPorts, PerPort.set_set]

@[simp] theorem State.port_withPort (s : State) (p q : Port) (l : LinkPort) :
    (s.withPort p l).port q = if q = p then l else s.port q := by
  simp [State.withPort, State.port]

@[simp] theorem State.port_mapPorts (s : State) (f : LinkPort → LinkPort) (q : Port) :
    (s.mapPorts f).port q = f (s.port q) := by
  simp [State.mapPorts, State.port]

theorem statusBytes_congr {s t : State} {p : Port} (hm : s.mode = t.mode) (hf : s.faults = t.faults)
    (he : s.engine = t.engine) (hq : s.queue = t.queue) (ht : s.table = t.table)
    (hs : (s.port p).sticky = (t.port p).sticky) : statusBytes s p = statusBytes t p := by
  unfold State.port at hs
  simp only [statusBytes, hm, hf, he, hq, ht, hs]

/-- What arbitration leaves on a port: the frame on the line goes on; an idle line takes the command slot,
else the reply slot, else the status slot. -/
def arbitrated (s : State) (p : Port) : LinkPort :=
  let l := s.port p
  match l.sending, waitingCommand s p, l.reply, l.statusWaiting with
  | some _, _, _, _ => l
  | none, some c, _, _ => { l with sending := some ⟨.command, c.bytes⟩ }
  | none, none, some r, _ => { l with sending := some ⟨.reply, r.bytes⟩ }
  | none, none, none, true =>
    { l with
      statusWaiting := false
      sending := some ⟨.status, statusBytes s p⟩
      sticky := StickySet.empty }
  | none, none, none, false => l

theorem startTransmitter_port (p q : Port) (s : State) :
    (startTransmitter p s).port q = if q = p then arbitrated s p else s.port q := by
  unfold startTransmitter arbitrated
  cases hs : (s.port p).sending with
  | some t => by_cases h : q = p <;> simp [h, hs]
  | none =>
    cases hw : waitingCommand s p with
    | some c =>
      have : (emptyCommandSlot p s).port q = s.port q := by simp [State.port]
      by_cases h : q = p <;> simp [h, hs, this]
    | none =>
      cases hr : (s.port p).reply with
      | some r => by_cases h : q = p <;> simp [h, hs, hr]
      | none =>
        cases hw' : (s.port p).statusWaiting <;> by_cases h : q = p <;> simp [h, hs, hr, hw']

theorem portAxle_inj {p q : Port} {a : Axle} (hp : portAxle p = some a) (hq : portAxle q = some a) :
    p = q := by
  cases p <;> cases q <;> cases a <;> simp_all [portAxle]

/-- The command slot of an axle after arbitration on a port. -/
theorem startTransmitter_command (p : Port) (a : Axle) (s : State) :
    (startTransmitter p s).commands.get a =
      if portAxle p = some a ∧ (s.port p).sending = none then none else s.commands.get a := by
  have h : waitingCommand s p = none → portAxle p = some a → s.commands.get a = none := by
    intro hw h
    simpa [waitingCommand, h] using hw
  unfold startTransmitter
  cases hs : (s.port p).sending with
  | some t => simp [hs]
  | none =>
    cases hw : waitingCommand s p with
    | some c =>
      unfold emptyCommandSlot
      cases hp : portAxle p with
      | none => simp [waitingCommand, hp] at hw
      | some b =>
        by_cases hab : a = b
        · simp [hs, State.withPort, State.withPorts, State.withCommands, hab]
        · have : b ≠ a := fun h => hab h.symm
          simp [hs, State.withPort, State.withPorts, State.withCommands, hab, this]
    | none =>
      cases hr : (s.port p).reply <;> cases hw' : (s.port p).statusWaiting <;>
        by_cases ha : portAxle p = some a <;>
        simp [hs, hr, hw', State.withPort, State.withPorts, ha, h hw]

theorem waitingCommand_startTransmitter {p q : Port} (h : q ≠ p) (s : State) :
    waitingCommand (startTransmitter p s) q = waitingCommand s q := by
  unfold waitingCommand
  cases hq : portAxle q with
  | none => rfl
  | some a =>
    simp only [startTransmitter_command]
    have : portAxle p ≠ some a := by
      intro hp
      exact h (portAxle_inj hq hp)
    simp [this]

theorem arbitrated_startTransmitter {p q : Port} (h : q ≠ p) (s : State) :
    arbitrated (startTransmitter p s) q = arbitrated s q := by
  have hp : (startTransmitter p s).port q = s.port q := by simp [startTransmitter_port, h]
  have hb : statusBytes (startTransmitter p s) q = statusBytes s q :=
    statusBytes_congr (by simp) (by simp) (by simp) (by simp) (by simp) (by rw [hp])
  unfold arbitrated
  rw [hp, hb, waitingCommand_startTransmitter h]

/-- Arbitration on all four ports acts on each port alone. -/
theorem startTransmitters_port (s : State) (q : Port) :
    (startTransmitters s).port q = arbitrated s q := by
  unfold startTransmitters
  cases q <;> simp [startTransmitter_port, arbitrated_startTransmitter]

/-- The command slots after arbitration: a drive unit's idle line takes its frame. -/
theorem startTransmitters_command (s : State) (p : Port) (a : Axle) (h : portAxle p = some a) :
    (startTransmitters s).commands.get a =
      if (s.port p).sending = none then none else s.commands.get a := by
  unfold startTransmitters
  cases p <;> simp [portAxle] at h <;> subst h <;>
    simp [startTransmitter_command, startTransmitter_port, portAxle]

theorem arbitrated_quiet {s : State} (h : Quiet s) (p : Port) : arbitrated s p = s.port p := by
  unfold arbitrated
  cases hs : (s.port p).sending with
  | some t => simp [hs]
  | none =>
    obtain ⟨h1, h2, h3⟩ := h p hs
    simp [hs, h1, h2, h3]

/-- Two states are equal when every field is, ports and command slots read one by one. -/
theorem State.ext_fields {s t : State} (h1 : s.lines = t.lines) (h2 : s.mode = t.mode)
    (h3 : s.params = t.params) (h4 : s.maps = t.maps) (h5 : s.demand = t.demand)
    (h6 : s.axles = t.axles) (h7 : s.reference = t.reference) (h8 : s.supervisor = t.supervisor)
    (h9 : s.table = t.table) (h10 : s.queue = t.queue) (h11 : s.faults = t.faults)
    (h12 : s.engine = t.engine) (h13 : ∀ a, s.commands.get a = t.commands.get a)
    (h14 : ∀ q, s.port q = t.port q) (h15 : s.instant = t.instant) (h16 : s.pending = t.pending) :
    s = t := by
  have hc : s.commands = t.commands := PerAxle.ext_get h13
  have hp : s.ports = t.ports := PerPort.ext_get h14
  cases s
  cases t
  simp_all

/-- Where every idle transmitter has nothing waiting, arbitration changes nothing. -/
theorem startTransmitters_quiet {s : State} (h : Quiet s) : startTransmitters s = s := by
  apply State.ext_fields <;> try simp
  · intro a
    obtain ⟨p, hp⟩ : ∃ p, portAxle p = some a := by
      cases a
      · exact ⟨.pf, rfl⟩
      · exact ⟨.pr, rfl⟩
    rw [startTransmitters_command s p a hp]
    split
    · next hs =>
      have := (h p hs).1
      simp only [waitingCommand, hp] at this
      exact this.symm
    · rfl
  · intro q
    rw [startTransmitters_port, arbitrated_quiet h]

/-- After arbitration no idle transmitter has a frame waiting. -/
theorem startTransmitters_isQuiet (s : State) : Quiet (startTransmitters s) := by
  intro q hq
  rw [startTransmitters_port] at hq ⊢
  have hw : (arbitrated s q).sending = none → waitingCommand s q = none := by
    unfold arbitrated; simp only []; split <;> simp_all
  refine ⟨?_, ?_, ?_⟩
  · have hn := hw hq
    unfold waitingCommand at hn ⊢
    split
    · next a ha =>
      rw [startTransmitters_command s q a ha]
      simp only [ha] at hn
      split
      · rfl
      · exact hn
    · rfl
  · revert hq; unfold arbitrated; simp only []; split <;> simp_all
  · revert hq; unfold arbitrated; simp only []; split <;> simp_all

end Sys2Proof.Machine
end

