-- ==== Sys2Proof/Laws/Arrival.lean ====
section
/-! SUPPORT. What the arrival of a frame (spec 11, R171) does, said once: the condition under which it
arrives, the refresh, the REPLY it leaves. -/
namespace Sys2Proof.Machine

/-- A frame command takes its frame exactly when its last byte can arrive. -/
theorem frameArrives_eq (c : Instr) (p : Port) (take : State → State) (s : State) :
    frameArrives c p take s =
      if canArrive s p c then take (heard p s) else s := by
  unfold frameArrives canArrive heard setReceiver
  cases hr : s.lines.reset <;> simp
  cases hp : (s.port p).receiver with
  | hunt => simp
  | ready => simp
  | receiving held => cases completes p held c <;> simp

@[simp] theorem heard_port (p q : Port) (s : State) :
    (heard p s).port q = if q = p then { s.port p with receiver := .hunt } else s.port q := by
  simp [heard]

/-- A refresh moves no port and no command slot. -/
theorem refreshPort_port (p q : Port) (s : State) : (refreshPort p s).port q = s.port q := by
  simp [State.port]

@[simp] theorem heard_lines (p : Port) (s : State) : (heard p s).lines = s.lines := rfl
@[simp] theorem heard_mode (p : Port) (s : State) : (heard p s).mode = s.mode := rfl
@[simp] theorem heard_params (p : Port) (s : State) : (heard p s).params = s.params := rfl
@[simp] theorem heard_maps (p : Port) (s : State) : (heard p s).maps = s.maps := rfl
@[simp] theorem heard_demand (p : Port) (s : State) : (heard p s).demand = s.demand := rfl
@[simp] theorem heard_axles (p : Port) (s : State) : (heard p s).axles = s.axles := rfl
@[simp] theorem heard_reference (p : Port) (s : State) : (heard p s).reference = s.reference := rfl
@[simp] theorem heard_supervisor (p : Port) (s : State) :
    (heard p s).supervisor = s.supervisor := rfl
@[simp] theorem heard_table (p : Port) (s : State) : (heard p s).table = s.table := rfl
@[simp] theorem heard_queue (p : Port) (s : State) : (heard p s).queue = s.queue := rfl
@[simp] theorem heard_faults (p : Port) (s : State) : (heard p s).faults = s.faults := rfl
@[simp] theorem heard_engine (p : Port) (s : State) : (heard p s).engine = s.engine := rfl
@[simp] theorem heard_commands (p : Port) (s : State) : (heard p s).commands = s.commands := rfl
@[simp] theorem heard_instant (p : Port) (s : State) : (heard p s).instant = s.instant := rfl
@[simp] theorem heard_pending (p : Port) (s : State) : (heard p s).pending = s.pending := rfl

theorem freshEvent_withPorts (p : Port) (s : State) (x : PerPort LinkPort) :
    freshEvent p (s.withPorts x) = (freshEvent p s).withPorts x := by
  by_cases hf : (s.faults.get (linkFault p)).state = .active
  · simp [freshEvent, hf]; rfl
  · simp [freshEvent, hf]

/-- A refresh does not read the ports. -/
theorem refreshPort_withPorts (p : Port) (s : State) (x : PerPort LinkPort) :
    refreshPort p (s.withPorts x) = (refreshPort p s).withPorts x := by
  unfold refreshPort
  cases ha : s.supervisor.armed
  · simp [ha]
  · cases hd : (s.supervisor.deadlines.get p).freshness
    · simp [ha, hd]; rfl
    · simp only [State.withPorts_supervisor, ha, hd, if_true]
      rw [← freshEvent_withPorts]
      rfl

theorem refreshPort_heard (p : Port) (s : State) :
    refreshPort p (heard p s) = heard p (refreshPort p s) := by
  have hp : (refreshPort p s).ports = s.ports := by simp
  unfold heard State.withPort State.port
  rw [refreshPort_withPorts, hp]

theorem Quiet.of_same {s t : State} (h : Quiet s) (hp : t.ports = s.ports)
    (hc : t.commands = s.commands) : Quiet t := by
  intro q hq
  have hpq : t.port q = s.port q := by simp [State.port, hp]
  rw [hpq] at hq
  obtain ⟨h1, h2, h3⟩ := h q hq
  refine ⟨?_, by rw [hpq]; exact h2, by rw [hpq]; exact h3⟩
  simpa [waitingCommand, hc] using h1

/-- A REPLY placed on a port that has just heard a frame. -/
theorem placeReply_heard (p : Port) (r : Reply) (s : State) :
    placeReply p r (heard p s) = replied p r.tag r.kind r.outcome r.value s := by
  simp [placeReply, replied, heard]

/-- A request whose REPLY can be placed, when its last byte has arrived: the refresh, then the owner's
answer or the refusal for want of permission, then the REPLY (R171). -/
theorem takeRequest_heard {p : Port} {s : State} (hr : (s.port p).reply = none) (tag : Byte) (k : Kind)
    (owner : State → Answer) :
    takeRequest p tag k owner (heard p s) =
      let u := heard p (refreshPort p s)
      let a := if permitted s p k then owner u else refuse u .permission
      placeReply p ⟨tag, k.code, a.outcome, a.value⟩ a.state := by
  have h : replyOccupied (heard p (refreshPort p s)) p = false := by
    simp [replyOccupied, hr, refreshPort_port]
  have hp : permitted (heard p (refreshPort p s)) p k = permitted s p k := by
    cases k <;> simp [permitted, State.param]
  unfold takeRequest answerFrame
  simp only [refreshPort_heard, h, hp, Bool.false_eq_true, if_false]

/-- Every frame command of a known kind is the arrival of a request or, of the four silent kinds, of a
streaming frame, of a frame with a record of its own, or of a POLL. -/
theorem exec_frameOf {c : Instr} {p : Port} {k : Kind} {tag : Byte} (h : frameOf c = some (p, k, tag)) :
    (k.silent = false ∧ ∃ owner, ∀ s,
      exec c s = event (fun _ => frameArrives c p (takeRequest p tag k owner)) s) ∨
    (k.silent = true ∧ ∃ record, ∀ s,
      exec c s = event (fun _ => frameArrives c p (takeStreaming p tag k record)) s) ∨
    (k.silent = true ∧ ∃ r record, ∀ s,
      exec c s = event (fun o => frameArrives c p (takeRecord p tag k o r record)) s) := by
  cases c <;> simp only [frameOf, Option.some.injEq, Prod.mk.injEq, reduceCtorEq] at h <;>
    obtain ⟨rfl, rfl, rfl⟩ := h
  case demand => exact .inr (.inr ⟨rfl, _, _, fun _ => rfl⟩)
  case reference => exact .inr (.inr ⟨rfl, _, _, fun _ => rfl⟩)
  case envelope => exact .inr (.inl ⟨rfl, _, fun _ => rfl⟩)
  case poll => exact .inr (.inl ⟨rfl, _, fun _ => rfl⟩)
  all_goals exact .inl ⟨rfl, _, fun _ => rfl⟩

end Sys2Proof.Machine
end

