-- ==== Sys2Proof/Laws/Moves.lean ====
section
/-! SUPPORT. What each larger operation leaves untouched: one lemma for each field it does not change, and
for the levels of the RESET and SHUTOFF lines where it moves the FAULT line. -/
namespace Sys2Proof.Machine

@[simp] theorem observe_mode (f : FaultId) (b : Bool) (s : State) :
    (observe f b s).mode = s.mode := by
  unfold observe qualify; dsimp only; repeat' split
  all_goals simp
@[simp] theorem observe_params (f : FaultId) (b : Bool) (s : State) :
    (observe f b s).params = s.params := by
  unfold observe qualify; dsimp only; repeat' split
  all_goals simp
@[simp] theorem observe_maps (f : FaultId) (b : Bool) (s : State) :
    (observe f b s).maps = s.maps := by
  unfold observe qualify; dsimp only; repeat' split
  all_goals simp
@[simp] theorem observe_demand (f : FaultId) (b : Bool) (s : State) :
    (observe f b s).demand = s.demand := by
  unfold observe qualify; dsimp only; repeat' split
  all_goals simp
@[simp] theorem observe_axles (f : FaultId) (b : Bool) (s : State) :
    (observe f b s).axles = s.axles := by
  unfold observe qualify; dsimp only; repeat' split
  all_goals simp
@[simp] theorem observe_reference (f : FaultId) (b : Bool) (s : State) :
    (observe f b s).reference = s.reference := by
  unfold observe qualify; dsimp only; repeat' split
  all_goals simp
@[simp] theorem observe_supervisor (f : FaultId) (b : Bool) (s : State) :
    (observe f b s).supervisor = s.supervisor := by
  unfold observe qualify; dsimp only; repeat' split
  all_goals simp
@[simp] theorem observe_table (f : FaultId) (b : Bool) (s : State) :
    (observe f b s).table = s.table := by
  unfold observe qualify; dsimp only; repeat' split
  all_goals simp
@[simp] theorem observe_engine (f : FaultId) (b : Bool) (s : State) :
    (observe f b s).engine = s.engine := by
  unfold observe qualify; dsimp only; repeat' split
  all_goals simp
@[simp] theorem observe_commands (f : FaultId) (b : Bool) (s : State) :
    (observe f b s).commands = s.commands := by
  unfold observe qualify; dsimp only; repeat' split
  all_goals simp
@[simp] theorem observe_instant (f : FaultId) (b : Bool) (s : State) :
    (observe f b s).instant = s.instant := by
  unfold observe qualify; dsimp only; repeat' split
  all_goals simp
@[simp] theorem observe_pending (f : FaultId) (b : Bool) (s : State) :
    (observe f b s).pending = s.pending := by
  unfold observe qualify; dsimp only; repeat' split
  all_goals simp
@[simp] theorem observe_lines_reset (f : FaultId) (b : Bool) (s : State) :
    (observe f b s).lines.reset = s.lines.reset := by
  unfold observe qualify; dsimp only; repeat' split
  all_goals simp
@[simp] theorem observe_lines_shutoff (f : FaultId) (b : Bool) (s : State) :
    (observe f b s).lines.shutoff = s.lines.shutoff := by
  unfold observe qualify; dsimp only; repeat' split
  all_goals simp

@[simp] theorem handObservations_mode (x : Inputs) (s : State) :
    (handObservations x s).mode = s.mode := by
  simp [handObservations]
@[simp] theorem handObservations_params (x : Inputs) (s : State) :
    (handObservations x s).params = s.params := by
  simp [handObservations]
@[simp] theorem handObservations_maps (x : Inputs) (s : State) :
    (handObservations x s).maps = s.maps := by
  simp [handObservations]
@[simp] theorem handObservations_demand (x : Inputs) (s : State) :
    (handObservations x s).demand = s.demand := by
  simp [handObservations]
@[simp] theorem handObservations_axles (x : Inputs) (s : State) :
    (handObservations x s).axles = s.axles := by
  simp [handObservations]
@[simp] theorem handObservations_reference (x : Inputs) (s : State) :
    (handObservations x s).reference = s.reference := by
  simp [handObservations]
@[simp] theorem handObservations_supervisor (x : Inputs) (s : State) :
    (handObservations x s).supervisor = s.supervisor := by
  simp [handObservations]
@[simp] theorem handObservations_table (x : Inputs) (s : State) :
    (handObservations x s).table = s.table := by
  simp [handObservations]
@[simp] theorem handObservations_engine (x : Inputs) (s : State) :
    (handObservations x s).engine = s.engine := by
  simp [handObservations]
@[simp] theorem handObservations_commands (x : Inputs) (s : State) :
    (handObservations x s).commands = s.commands := by
  simp [handObservations]
@[simp] theorem handObservations_instant (x : Inputs) (s : State) :
    (handObservations x s).instant = s.instant := by
  simp [handObservations]
@[simp] theorem handObservations_pending (x : Inputs) (s : State) :
    (handObservations x s).pending = s.pending := by
  simp [handObservations]
@[simp] theorem handObservations_lines_reset (x : Inputs) (s : State) :
    (handObservations x s).lines.reset = s.lines.reset := by
  simp [handObservations]
@[simp] theorem handObservations_lines_shutoff (x : Inputs) (s : State) :
    (handObservations x s).lines.shutoff = s.lines.shutoff := by
  simp [handObservations]

@[simp] theorem publish_lines (r : SplitResult) (s : State) : (publish r s).lines = s.lines := by
  simp [publish]
@[simp] theorem publish_mode (r : SplitResult) (s : State) : (publish r s).mode = s.mode := by
  simp [publish]
@[simp] theorem publish_params (r : SplitResult) (s : State) : (publish r s).params = s.params := by
  simp [publish]
@[simp] theorem publish_maps (r : SplitResult) (s : State) : (publish r s).maps = s.maps := by
  simp [publish]
@[simp] theorem publish_demand (r : SplitResult) (s : State) : (publish r s).demand = s.demand := by
  simp [publish]
@[simp] theorem publish_axles (r : SplitResult) (s : State) : (publish r s).axles = s.axles := by
  simp [publish]
@[simp] theorem publish_reference (r : SplitResult) (s : State) :
    (publish r s).reference = s.reference := by
  simp [publish]
@[simp] theorem publish_supervisor (r : SplitResult) (s : State) :
    (publish r s).supervisor = s.supervisor := by
  simp [publish]
@[simp] theorem publish_table (r : SplitResult) (s : State) : (publish r s).table = s.table := by
  simp [publish]
@[simp] theorem publish_queue (r : SplitResult) (s : State) : (publish r s).queue = s.queue := by
  simp [publish]
@[simp] theorem publish_faults (r : SplitResult) (s : State) : (publish r s).faults = s.faults := by
  simp [publish]
@[simp] theorem publish_commands (r : SplitResult) (s : State) :
    (publish r s).commands = s.commands := by
  simp [publish]
@[simp] theorem publish_ports (r : SplitResult) (s : State) : (publish r s).ports = s.ports := by
  simp [publish]
@[simp] theorem publish_instant (r : SplitResult) (s : State) :
    (publish r s).instant = s.instant := by
  simp [publish]
@[simp] theorem publish_pending (r : SplitResult) (s : State) :
    (publish r s).pending = s.pending := by
  simp [publish]

@[simp] theorem placeCommands_lines (v : PerAxle Bool) (s : State) :
    (placeCommands v s).lines = s.lines := by
  simp [placeCommands]
@[simp] theorem placeCommands_mode (v : PerAxle Bool) (s : State) :
    (placeCommands v s).mode = s.mode := by
  simp [placeCommands]
@[simp] theorem placeCommands_params (v : PerAxle Bool) (s : State) :
    (placeCommands v s).params = s.params := by
  simp [placeCommands]
@[simp] theorem placeCommands_maps (v : PerAxle Bool) (s : State) :
    (placeCommands v s).maps = s.maps := by
  simp [placeCommands]
@[simp] theorem placeCommands_demand (v : PerAxle Bool) (s : State) :
    (placeCommands v s).demand = s.demand := by
  simp [placeCommands]
@[simp] theorem placeCommands_axles (v : PerAxle Bool) (s : State) :
    (placeCommands v s).axles = s.axles := by
  simp [placeCommands]
@[simp] theorem placeCommands_reference (v : PerAxle Bool) (s : State) :
    (placeCommands v s).reference = s.reference := by
  simp [placeCommands]
@[simp] theorem placeCommands_supervisor (v : PerAxle Bool) (s : State) :
    (placeCommands v s).supervisor = s.supervisor := by
  simp [placeCommands]
@[simp] theorem placeCommands_table (v : PerAxle Bool) (s : State) :
    (placeCommands v s).table = s.table := by
  simp [placeCommands]
@[simp] theorem placeCommands_queue (v : PerAxle Bool) (s : State) :
    (placeCommands v s).queue = s.queue := by
  simp [placeCommands]
@[simp] theorem placeCommands_faults (v : PerAxle Bool) (s : State) :
    (placeCommands v s).faults = s.faults := by
  simp [placeCommands]
@[simp] theorem placeCommands_engine (v : PerAxle Bool) (s : State) :
    (placeCommands v s).engine = s.engine := by
  simp [placeCommands]
@[simp] theorem placeCommands_ports (v : PerAxle Bool) (s : State) :
    (placeCommands v s).ports = s.ports := by
  simp [placeCommands]
@[simp] theorem placeCommands_instant (v : PerAxle Bool) (s : State) :
    (placeCommands v s).instant = s.instant := by
  simp [placeCommands]
@[simp] theorem placeCommands_pending (v : PerAxle Bool) (s : State) :
    (placeCommands v s).pending = s.pending := by
  simp [placeCommands]

@[simp] theorem handNotice_lines (x : Inputs) (r : SplitResult) (s : State) :
    (handNotice x r s).lines = s.lines := by
  unfold handNotice; split <;> simp
@[simp] theorem handNotice_mode (x : Inputs) (r : SplitResult) (s : State) :
    (handNotice x r s).mode = s.mode := by
  unfold handNotice; split <;> simp
@[simp] theorem handNotice_params (x : Inputs) (r : SplitResult) (s : State) :
    (handNotice x r s).params = s.params := by
  unfold handNotice; split <;> simp
@[simp] theorem handNotice_maps (x : Inputs) (r : SplitResult) (s : State) :
    (handNotice x r s).maps = s.maps := by
  unfold handNotice; split <;> simp
@[simp] theorem handNotice_demand (x : Inputs) (r : SplitResult) (s : State) :
    (handNotice x r s).demand = s.demand := by
  unfold handNotice; split <;> simp
@[simp] theorem handNotice_axles (x : Inputs) (r : SplitResult) (s : State) :
    (handNotice x r s).axles = s.axles := by
  unfold handNotice; split <;> simp
@[simp] theorem handNotice_reference (x : Inputs) (r : SplitResult) (s : State) :
    (handNotice x r s).reference = s.reference := by
  unfold handNotice; split <;> simp
@[simp] theorem handNotice_supervisor (x : Inputs) (r : SplitResult) (s : State) :
    (handNotice x r s).supervisor = s.supervisor := by
  unfold handNotice; split <;> simp
@[simp] theorem handNotice_table (x : Inputs) (r : SplitResult) (s : State) :
    (handNotice x r s).table = s.table := by
  unfold handNotice; split <;> simp
@[simp] theorem handNotice_faults (x : Inputs) (r : SplitResult) (s : State) :
    (handNotice x r s).faults = s.faults := by
  unfold handNotice; split <;> simp
@[simp] theorem handNotice_engine (x : Inputs) (r : SplitResult) (s : State) :
    (handNotice x r s).engine = s.engine := by
  unfold handNotice; split <;> simp
@[simp] theorem handNotice_commands (x : Inputs) (r : SplitResult) (s : State) :
    (handNotice x r s).commands = s.commands := by
  unfold handNotice; split <;> simp
@[simp] theorem handNotice_ports (x : Inputs) (r : SplitResult) (s : State) :
    (handNotice x r s).ports = s.ports := by
  unfold handNotice; split <;> simp
@[simp] theorem handNotice_instant (x : Inputs) (r : SplitResult) (s : State) :
    (handNotice x r s).instant = s.instant := by
  unfold handNotice; split <;> simp
@[simp] theorem handNotice_pending (x : Inputs) (r : SplitResult) (s : State) :
    (handNotice x r s).pending = s.pending := by
  unfold handNotice; split <;> simp

@[simp] theorem cadence_lines (x : Inputs) (s : State) : (cadence x s).lines = s.lines := by
  unfold cadence; split <;> simp
@[simp] theorem cadence_mode (x : Inputs) (s : State) : (cadence x s).mode = s.mode := by
  unfold cadence; split <;> simp
@[simp] theorem cadence_params (x : Inputs) (s : State) : (cadence x s).params = s.params := by
  unfold cadence; split <;> simp
@[simp] theorem cadence_maps (x : Inputs) (s : State) : (cadence x s).maps = s.maps := by
  unfold cadence; split <;> simp
@[simp] theorem cadence_demand (x : Inputs) (s : State) : (cadence x s).demand = s.demand := by
  unfold cadence; split <;> simp
@[simp] theorem cadence_axles (x : Inputs) (s : State) : (cadence x s).axles = s.axles := by
  unfold cadence; split <;> simp
@[simp] theorem cadence_reference (x : Inputs) (s : State) :
    (cadence x s).reference = s.reference := by
  unfold cadence; split <;> simp
@[simp] theorem cadence_supervisor (x : Inputs) (s : State) :
    (cadence x s).supervisor = s.supervisor := by
  unfold cadence; split <;> simp
@[simp] theorem cadence_table (x : Inputs) (s : State) : (cadence x s).table = s.table := by
  unfold cadence; split <;> simp
@[simp] theorem cadence_queue (x : Inputs) (s : State) : (cadence x s).queue = s.queue := by
  unfold cadence; split <;> simp
@[simp] theorem cadence_faults (x : Inputs) (s : State) : (cadence x s).faults = s.faults := by
  unfold cadence; split <;> simp
@[simp] theorem cadence_engine (x : Inputs) (s : State) : (cadence x s).engine = s.engine := by
  unfold cadence; split <;> simp
@[simp] theorem cadence_commands (x : Inputs) (s : State) :
    (cadence x s).commands = s.commands := by
  unfold cadence; split <;> simp
@[simp] theorem cadence_instant (x : Inputs) (s : State) : (cadence x s).instant = s.instant := by
  unfold cadence; split <;> simp
@[simp] theorem cadence_pending (x : Inputs) (s : State) : (cadence x s).pending = s.pending := by
  unfold cadence; split <;> simp

@[simp] theorem complete_mode (x : Inputs) (s : State) : (complete x s).mode = s.mode := by
  simp [complete]
@[simp] theorem complete_params (x : Inputs) (s : State) : (complete x s).params = s.params := by
  simp [complete]
@[simp] theorem complete_maps (x : Inputs) (s : State) : (complete x s).maps = s.maps := by
  simp [complete]
@[simp] theorem complete_demand (x : Inputs) (s : State) : (complete x s).demand = s.demand := by
  simp [complete]
@[simp] theorem complete_axles (x : Inputs) (s : State) : (complete x s).axles = s.axles := by
  simp [complete]
@[simp] theorem complete_reference (x : Inputs) (s : State) :
    (complete x s).reference = s.reference := by
  simp [complete]
@[simp] theorem complete_supervisor (x : Inputs) (s : State) :
    (complete x s).supervisor = s.supervisor := by
  simp [complete]
@[simp] theorem complete_table (x : Inputs) (s : State) : (complete x s).table = s.table := by
  simp [complete]
@[simp] theorem complete_instant (x : Inputs) (s : State) : (complete x s).instant = s.instant := by
  simp [complete]
@[simp] theorem complete_pending (x : Inputs) (s : State) : (complete x s).pending = s.pending := by
  simp [complete]
@[simp] theorem complete_lines_reset (x : Inputs) (s : State) :
    (complete x s).lines.reset = s.lines.reset := by
  simp [complete]
@[simp] theorem complete_lines_shutoff (x : Inputs) (s : State) :
    (complete x s).lines.shutoff = s.lines.shutoff := by
  simp [complete]

@[simp] theorem startProgram_lines (s : State) : (startProgram s).lines = s.lines := by
  unfold startProgram; split <;> simp
@[simp] theorem startProgram_mode (s : State) : (startProgram s).mode = s.mode := by
  unfold startProgram; split <;> simp
@[simp] theorem startProgram_params (s : State) : (startProgram s).params = s.params := by
  unfold startProgram; split <;> simp
@[simp] theorem startProgram_maps (s : State) : (startProgram s).maps = s.maps := by
  unfold startProgram; split <;> simp
@[simp] theorem startProgram_demand (s : State) : (startProgram s).demand = s.demand := by
  unfold startProgram; split <;> simp
@[simp] theorem startProgram_axles (s : State) : (startProgram s).axles = s.axles := by
  unfold startProgram; split <;> simp
@[simp] theorem startProgram_reference (s : State) : (startProgram s).reference = s.reference := by
  unfold startProgram; split <;> simp
@[simp] theorem startProgram_supervisor (s : State) :
    (startProgram s).supervisor = s.supervisor := by
  unfold startProgram; split <;> simp
@[simp] theorem startProgram_table (s : State) : (startProgram s).table = s.table := by
  unfold startProgram; split <;> simp
@[simp] theorem startProgram_faults (s : State) : (startProgram s).faults = s.faults := by
  unfold startProgram; split <;> simp
@[simp] theorem startProgram_engine (s : State) : (startProgram s).engine = s.engine := by
  unfold startProgram; split <;> simp
@[simp] theorem startProgram_commands (s : State) : (startProgram s).commands = s.commands := by
  unfold startProgram; split <;> simp
@[simp] theorem startProgram_ports (s : State) : (startProgram s).ports = s.ports := by
  unfold startProgram; split <;> simp
@[simp] theorem startProgram_instant (s : State) : (startProgram s).instant = s.instant := by
  unfold startProgram; split <;> simp
@[simp] theorem startProgram_pending (s : State) : (startProgram s).pending = s.pending := by
  unfold startProgram; split <;> simp

@[simp] theorem startComputation_lines (s : State) : (startComputation s).lines = s.lines := by
  simp [startComputation]
@[simp] theorem startComputation_mode (s : State) : (startComputation s).mode = s.mode := by
  simp [startComputation]
@[simp] theorem startComputation_params (s : State) : (startComputation s).params = s.params := by
  simp [startComputation]
@[simp] theorem startComputation_maps (s : State) : (startComputation s).maps = s.maps := by
  simp [startComputation]
@[simp] theorem startComputation_demand (s : State) : (startComputation s).demand = s.demand := by
  simp [startComputation]
@[simp] theorem startComputation_axles (s : State) : (startComputation s).axles = s.axles := by
  simp [startComputation]
@[simp] theorem startComputation_reference (s : State) :
    (startComputation s).reference = s.reference := by
  simp [startComputation]
@[simp] theorem startComputation_supervisor (s : State) :
    (startComputation s).supervisor = s.supervisor := by
  simp [startComputation]
@[simp] theorem startComputation_table (s : State) : (startComputation s).table = s.table := by
  simp [startComputation]
@[simp] theorem startComputation_faults (s : State) : (startComputation s).faults = s.faults := by
  simp [startComputation]
@[simp] theorem startComputation_commands (s : State) :
    (startComputation s).commands = s.commands := by
  simp [startComputation]
@[simp] theorem startComputation_ports (s : State) : (startComputation s).ports = s.ports := by
  simp [startComputation]
@[simp] theorem startComputation_instant (s : State) :
    (startComputation s).instant = s.instant := by
  simp [startComputation]
@[simp] theorem startComputation_pending (s : State) :
    (startComputation s).pending = s.pending := by
  simp [startComputation]

@[simp] theorem beginInterval_lines (s : State) : (beginInterval s).lines = s.lines := by
  simp [beginInterval]
@[simp] theorem beginInterval_mode (s : State) : (beginInterval s).mode = s.mode := by
  simp [beginInterval]
@[simp] theorem beginInterval_params (s : State) : (beginInterval s).params = s.params := by
  simp [beginInterval]
@[simp] theorem beginInterval_maps (s : State) : (beginInterval s).maps = s.maps := by
  simp [beginInterval]
@[simp] theorem beginInterval_demand (s : State) : (beginInterval s).demand = s.demand := by
  simp [beginInterval]
@[simp] theorem beginInterval_axles (s : State) : (beginInterval s).axles = s.axles := by
  simp [beginInterval]
@[simp] theorem beginInterval_reference (s : State) :
    (beginInterval s).reference = s.reference := by
  simp [beginInterval]
@[simp] theorem beginInterval_supervisor (s : State) :
    (beginInterval s).supervisor = s.supervisor := by
  simp [beginInterval]
@[simp] theorem beginInterval_table (s : State) : (beginInterval s).table = s.table := by
  simp [beginInterval]
@[simp] theorem beginInterval_queue (s : State) : (beginInterval s).queue = s.queue := by
  simp [beginInterval]
@[simp] theorem beginInterval_faults (s : State) : (beginInterval s).faults = s.faults := by
  simp [beginInterval]
@[simp] theorem beginInterval_commands (s : State) : (beginInterval s).commands = s.commands := by
  simp [beginInterval]
@[simp] theorem beginInterval_ports (s : State) : (beginInterval s).ports = s.ports := by
  simp [beginInterval]
@[simp] theorem beginInterval_instant (s : State) : (beginInterval s).instant = s.instant := by
  simp [beginInterval]
@[simp] theorem beginInterval_pending (s : State) : (beginInterval s).pending = s.pending := by
  simp [beginInterval]

@[simp] theorem countDeadlines_lines (s : State) : (countDeadlines s).lines = s.lines := by
  unfold countDeadlines; split <;> simp
@[simp] theorem countDeadlines_mode (s : State) : (countDeadlines s).mode = s.mode := by
  unfold countDeadlines; split <;> simp
@[simp] theorem countDeadlines_params (s : State) : (countDeadlines s).params = s.params := by
  unfold countDeadlines; split <;> simp
@[simp] theorem countDeadlines_maps (s : State) : (countDeadlines s).maps = s.maps := by
  unfold countDeadlines; split <;> simp
@[simp] theorem countDeadlines_demand (s : State) : (countDeadlines s).demand = s.demand := by
  unfold countDeadlines; split <;> simp
@[simp] theorem countDeadlines_axles (s : State) : (countDeadlines s).axles = s.axles := by
  unfold countDeadlines; split <;> simp
@[simp] theorem countDeadlines_reference (s : State) :
    (countDeadlines s).reference = s.reference := by
  unfold countDeadlines; split <;> simp
@[simp] theorem countDeadlines_table (s : State) : (countDeadlines s).table = s.table := by
  unfold countDeadlines; split <;> simp
@[simp] theorem countDeadlines_queue (s : State) : (countDeadlines s).queue = s.queue := by
  unfold countDeadlines; split <;> simp
@[simp] theorem countDeadlines_faults (s : State) : (countDeadlines s).faults = s.faults := by
  unfold countDeadlines; split <;> simp
@[simp] theorem countDeadlines_engine (s : State) : (countDeadlines s).engine = s.engine := by
  unfold countDeadlines; split <;> simp
@[simp] theorem countDeadlines_commands (s : State) : (countDeadlines s).commands = s.commands := by
  unfold countDeadlines; split <;> simp
@[simp] theorem countDeadlines_ports (s : State) : (countDeadlines s).ports = s.ports := by
  unfold countDeadlines; split <;> simp
@[simp] theorem countDeadlines_pending (s : State) : (countDeadlines s).pending = s.pending := by
  unfold countDeadlines; split <;> simp

@[simp] theorem takePeriodExpiry_lines (o : Order) (s : State) :
    (takePeriodExpiry o s).lines = s.lines := by
  unfold takePeriodExpiry; split <;> simp
@[simp] theorem takePeriodExpiry_mode (o : Order) (s : State) :
    (takePeriodExpiry o s).mode = s.mode := by
  unfold takePeriodExpiry; split <;> simp
@[simp] theorem takePeriodExpiry_params (o : Order) (s : State) :
    (takePeriodExpiry o s).params = s.params := by
  unfold takePeriodExpiry; split <;> simp
@[simp] theorem takePeriodExpiry_maps (o : Order) (s : State) :
    (takePeriodExpiry o s).maps = s.maps := by
  unfold takePeriodExpiry; split <;> simp
@[simp] theorem takePeriodExpiry_demand (o : Order) (s : State) :
    (takePeriodExpiry o s).demand = s.demand := by
  unfold takePeriodExpiry; split <;> simp
@[simp] theorem takePeriodExpiry_axles (o : Order) (s : State) :
    (takePeriodExpiry o s).axles = s.axles := by
  unfold takePeriodExpiry; split <;> simp
@[simp] theorem takePeriodExpiry_reference (o : Order) (s : State) :
    (takePeriodExpiry o s).reference = s.reference := by
  unfold takePeriodExpiry; split <;> simp
@[simp] theorem takePeriodExpiry_table (o : Order) (s : State) :
    (takePeriodExpiry o s).table = s.table := by
  unfold takePeriodExpiry; split <;> simp
@[simp] theorem takePeriodExpiry_faults (o : Order) (s : State) :
    (takePeriodExpiry o s).faults = s.faults := by
  unfold takePeriodExpiry; split <;> simp
@[simp] theorem takePeriodExpiry_commands (o : Order) (s : State) :
    (takePeriodExpiry o s).commands = s.commands := by
  unfold takePeriodExpiry; split <;> simp
@[simp] theorem takePeriodExpiry_ports (o : Order) (s : State) :
    (takePeriodExpiry o s).ports = s.ports := by
  unfold takePeriodExpiry; split <;> simp
@[simp] theorem takePeriodExpiry_pending (o : Order) (s : State) :
    (takePeriodExpiry o s).pending = s.pending := by
  unfold takePeriodExpiry; split <;> simp

@[simp] theorem passDeadline_mode (p : Port) (b : Bool) (s : State) :
    (passDeadline p b s).mode = s.mode := by
  simp [passDeadline]
@[simp] theorem passDeadline_params (p : Port) (b : Bool) (s : State) :
    (passDeadline p b s).params = s.params := by
  simp [passDeadline]
@[simp] theorem passDeadline_maps (p : Port) (b : Bool) (s : State) :
    (passDeadline p b s).maps = s.maps := by
  simp [passDeadline]
@[simp] theorem passDeadline_demand (p : Port) (b : Bool) (s : State) :
    (passDeadline p b s).demand = s.demand := by
  simp [passDeadline]
@[simp] theorem passDeadline_axles (p : Port) (b : Bool) (s : State) :
    (passDeadline p b s).axles = s.axles := by
  simp [passDeadline]
@[simp] theorem passDeadline_reference (p : Port) (b : Bool) (s : State) :
    (passDeadline p b s).reference = s.reference := by
  simp [passDeadline]
@[simp] theorem passDeadline_table (p : Port) (b : Bool) (s : State) :
    (passDeadline p b s).table = s.table := by
  simp [passDeadline]
@[simp] theorem passDeadline_engine (p : Port) (b : Bool) (s : State) :
    (passDeadline p b s).engine = s.engine := by
  simp [passDeadline]
@[simp] theorem passDeadline_commands (p : Port) (b : Bool) (s : State) :
    (passDeadline p b s).commands = s.commands := by
  simp [passDeadline]
@[simp] theorem passDeadline_instant (p : Port) (b : Bool) (s : State) :
    (passDeadline p b s).instant = s.instant := by
  simp [passDeadline]
@[simp] theorem passDeadline_pending (p : Port) (b : Bool) (s : State) :
    (passDeadline p b s).pending = s.pending := by
  simp [passDeadline]
@[simp] theorem passDeadline_lines_reset (p : Port) (b : Bool) (s : State) :
    (passDeadline p b s).lines.reset = s.lines.reset := by
  simp [passDeadline]
@[simp] theorem passDeadline_lines_shutoff (p : Port) (b : Bool) (s : State) :
    (passDeadline p b s).lines.shutoff = s.lines.shutoff := by
  simp [passDeadline]

@[simp] theorem setMode_lines (m : Mode) (s : State) : (setMode m s).lines = s.lines := by
  simp [setMode]
@[simp] theorem setMode_params (m : Mode) (s : State) : (setMode m s).params = s.params := by
  simp [setMode]
@[simp] theorem setMode_maps (m : Mode) (s : State) : (setMode m s).maps = s.maps := by
  simp [setMode]
@[simp] theorem setMode_demand (m : Mode) (s : State) : (setMode m s).demand = s.demand := by
  simp [setMode]
@[simp] theorem setMode_axles (m : Mode) (s : State) : (setMode m s).axles = s.axles := by
  simp [setMode]
@[simp] theorem setMode_reference (m : Mode) (s : State) :
    (setMode m s).reference = s.reference := by
  simp [setMode]
@[simp] theorem setMode_supervisor (m : Mode) (s : State) :
    (setMode m s).supervisor = s.supervisor := by
  simp [setMode]
@[simp] theorem setMode_table (m : Mode) (s : State) : (setMode m s).table = s.table := by
  simp [setMode]
@[simp] theorem setMode_queue (m : Mode) (s : State) : (setMode m s).queue = s.queue := by
  simp [setMode]
@[simp] theorem setMode_faults (m : Mode) (s : State) : (setMode m s).faults = s.faults := by
  simp [setMode]
@[simp] theorem setMode_engine (m : Mode) (s : State) : (setMode m s).engine = s.engine := by
  simp [setMode]
@[simp] theorem setMode_commands (m : Mode) (s : State) : (setMode m s).commands = s.commands := by
  simp [setMode]
@[simp] theorem setMode_ports (m : Mode) (s : State) : (setMode m s).ports = s.ports := by
  simp [setMode]
@[simp] theorem setMode_instant (m : Mode) (s : State) : (setMode m s).instant = s.instant := by
  simp [setMode]
@[simp] theorem setMode_pending (m : Mode) (s : State) : (setMode m s).pending = s.pending := by
  simp [setMode]

@[simp] theorem resetCorrections_lines (s : State) : (resetCorrections s).lines = s.lines := by
  simp [resetCorrections]
@[simp] theorem resetCorrections_mode (s : State) : (resetCorrections s).mode = s.mode := by
  simp [resetCorrections]
@[simp] theorem resetCorrections_params (s : State) : (resetCorrections s).params = s.params := by
  simp [resetCorrections]
@[simp] theorem resetCorrections_maps (s : State) : (resetCorrections s).maps = s.maps := by
  simp [resetCorrections]
@[simp] theorem resetCorrections_demand (s : State) : (resetCorrections s).demand = s.demand := by
  simp [resetCorrections]
@[simp] theorem resetCorrections_axles (s : State) : (resetCorrections s).axles = s.axles := by
  simp [resetCorrections]
@[simp] theorem resetCorrections_reference (s : State) :
    (resetCorrections s).reference = s.reference := by
  simp [resetCorrections]
@[simp] theorem resetCorrections_supervisor (s : State) :
    (resetCorrections s).supervisor = s.supervisor := by
  simp [resetCorrections]
@[simp] theorem resetCorrections_table (s : State) : (resetCorrections s).table = s.table := by
  simp [resetCorrections]
@[simp] theorem resetCorrections_queue (s : State) : (resetCorrections s).queue = s.queue := by
  simp [resetCorrections]
@[simp] theorem resetCorrections_faults (s : State) : (resetCorrections s).faults = s.faults := by
  simp [resetCorrections]
@[simp] theorem resetCorrections_commands (s : State) :
    (resetCorrections s).commands = s.commands := by
  simp [resetCorrections]
@[simp] theorem resetCorrections_ports (s : State) : (resetCorrections s).ports = s.ports := by
  simp [resetCorrections]
@[simp] theorem resetCorrections_instant (s : State) :
    (resetCorrections s).instant = s.instant := by
  simp [resetCorrections]
@[simp] theorem resetCorrections_pending (s : State) :
    (resetCorrections s).pending = s.pending := by
  simp [resetCorrections]

@[simp] theorem enterRun_lines (s : State) : (enterRun s).lines = s.lines := by
  simp [enterRun]
@[simp] theorem enterRun_params (s : State) : (enterRun s).params = s.params := by
  simp [enterRun]
@[simp] theorem enterRun_maps (s : State) : (enterRun s).maps = s.maps := by
  simp [enterRun]
@[simp] theorem enterRun_demand (s : State) : (enterRun s).demand = s.demand := by
  simp [enterRun]
@[simp] theorem enterRun_axles (s : State) : (enterRun s).axles = s.axles := by
  simp [enterRun]
@[simp] theorem enterRun_reference (s : State) : (enterRun s).reference = s.reference := by
  simp [enterRun]
@[simp] theorem enterRun_table (s : State) : (enterRun s).table = s.table := by
  simp [enterRun]
@[simp] theorem enterRun_queue (s : State) : (enterRun s).queue = s.queue := by
  simp [enterRun]
@[simp] theorem enterRun_faults (s : State) : (enterRun s).faults = s.faults := by
  simp [enterRun]
@[simp] theorem enterRun_commands (s : State) : (enterRun s).commands = s.commands := by
  simp [enterRun]
@[simp] theorem enterRun_instant (s : State) : (enterRun s).instant = s.instant := by
  simp [enterRun]
@[simp] theorem enterRun_pending (s : State) : (enterRun s).pending = s.pending := by
  simp [enterRun]

@[simp] theorem enterHalt_lines (s : State) : (enterHalt s).lines = s.lines := by
  simp [enterHalt]
@[simp] theorem enterHalt_params (s : State) : (enterHalt s).params = s.params := by
  simp [enterHalt]
@[simp] theorem enterHalt_maps (s : State) : (enterHalt s).maps = s.maps := by
  simp [enterHalt]
@[simp] theorem enterHalt_demand (s : State) : (enterHalt s).demand = s.demand := by
  simp [enterHalt]
@[simp] theorem enterHalt_axles (s : State) : (enterHalt s).axles = s.axles := by
  simp [enterHalt]
@[simp] theorem enterHalt_reference (s : State) : (enterHalt s).reference = s.reference := by
  simp [enterHalt]
@[simp] theorem enterHalt_supervisor (s : State) : (enterHalt s).supervisor = s.supervisor := by
  simp [enterHalt]
@[simp] theorem enterHalt_table (s : State) : (enterHalt s).table = s.table := by
  simp [enterHalt]
@[simp] theorem enterHalt_faults (s : State) : (enterHalt s).faults = s.faults := by
  simp [enterHalt]
@[simp] theorem enterHalt_engine (s : State) : (enterHalt s).engine = s.engine := by
  simp [enterHalt]
@[simp] theorem enterHalt_commands (s : State) : (enterHalt s).commands = s.commands := by
  simp [enterHalt]
@[simp] theorem enterHalt_instant (s : State) : (enterHalt s).instant = s.instant := by
  simp [enterHalt]
@[simp] theorem enterHalt_pending (s : State) : (enterHalt s).pending = s.pending := by
  simp [enterHalt]

@[simp] theorem clearLinkFaults_mode (s : State) : (clearLinkFaults s).mode = s.mode := by
  simp [clearLinkFaults]
@[simp] theorem clearLinkFaults_params (s : State) : (clearLinkFaults s).params = s.params := by
  simp [clearLinkFaults]
@[simp] theorem clearLinkFaults_maps (s : State) : (clearLinkFaults s).maps = s.maps := by
  simp [clearLinkFaults]
@[simp] theorem clearLinkFaults_demand (s : State) : (clearLinkFaults s).demand = s.demand := by
  simp [clearLinkFaults]
@[simp] theorem clearLinkFaults_axles (s : State) : (clearLinkFaults s).axles = s.axles := by
  simp [clearLinkFaults]
@[simp] theorem clearLinkFaults_reference (s : State) :
    (clearLinkFaults s).reference = s.reference := by
  simp [clearLinkFaults]
@[simp] theorem clearLinkFaults_supervisor (s : State) :
    (clearLinkFaults s).supervisor = s.supervisor := by
  simp [clearLinkFaults]
@[simp] theorem clearLinkFaults_table (s : State) : (clearLinkFaults s).table = s.table := by
  simp [clearLinkFaults]
@[simp] theorem clearLinkFaults_queue (s : State) : (clearLinkFaults s).queue = s.queue := by
  simp [clearLinkFaults]
@[simp] theorem clearLinkFaults_engine (s : State) : (clearLinkFaults s).engine = s.engine := by
  simp [clearLinkFaults]
@[simp] theorem clearLinkFaults_commands (s : State) :
    (clearLinkFaults s).commands = s.commands := by
  simp [clearLinkFaults]
@[simp] theorem clearLinkFaults_ports (s : State) : (clearLinkFaults s).ports = s.ports := by
  simp [clearLinkFaults]
@[simp] theorem clearLinkFaults_instant (s : State) : (clearLinkFaults s).instant = s.instant := by
  simp [clearLinkFaults]
@[simp] theorem clearLinkFaults_pending (s : State) : (clearLinkFaults s).pending = s.pending := by
  simp [clearLinkFaults]
@[simp] theorem clearLinkFaults_lines_reset (s : State) :
    (clearLinkFaults s).lines.reset = s.lines.reset := by
  simp [clearLinkFaults]
@[simp] theorem clearLinkFaults_lines_shutoff (s : State) :
    (clearLinkFaults s).lines.shutoff = s.lines.shutoff := by
  simp [clearLinkFaults]

@[simp] theorem enterConfig_params (s : State) : (enterConfig s).params = s.params := by
  simp [enterConfig]
@[simp] theorem enterConfig_maps (s : State) : (enterConfig s).maps = s.maps := by
  simp [enterConfig]
@[simp] theorem enterConfig_demand (s : State) : (enterConfig s).demand = s.demand := by
  simp [enterConfig]
@[simp] theorem enterConfig_axles (s : State) : (enterConfig s).axles = s.axles := by
  simp [enterConfig]
@[simp] theorem enterConfig_reference (s : State) : (enterConfig s).reference = s.reference := by
  simp [enterConfig]
@[simp] theorem enterConfig_engine (s : State) : (enterConfig s).engine = s.engine := by
  simp [enterConfig]
@[simp] theorem enterConfig_commands (s : State) : (enterConfig s).commands = s.commands := by
  simp [enterConfig]
@[simp] theorem enterConfig_instant (s : State) : (enterConfig s).instant = s.instant := by
  simp [enterConfig]
@[simp] theorem enterConfig_pending (s : State) : (enterConfig s).pending = s.pending := by
  simp [enterConfig]
@[simp] theorem enterConfig_lines_reset (s : State) :
    (enterConfig s).lines.reset = s.lines.reset := by
  simp [enterConfig]
@[simp] theorem enterConfig_lines_shutoff (s : State) :
    (enterConfig s).lines.shutoff = s.lines.shutoff := by
  simp [enterConfig]

@[simp] theorem releaseFault_mode (f : FaultId) (s : State) : (releaseFault f s).mode = s.mode := by
  unfold releaseFault; split <;> simp
@[simp] theorem releaseFault_params (f : FaultId) (s : State) :
    (releaseFault f s).params = s.params := by
  unfold releaseFault; split <;> simp
@[simp] theorem releaseFault_maps (f : FaultId) (s : State) : (releaseFault f s).maps = s.maps := by
  unfold releaseFault; split <;> simp
@[simp] theorem releaseFault_demand (f : FaultId) (s : State) :
    (releaseFault f s).demand = s.demand := by
  unfold releaseFault; split <;> simp
@[simp] theorem releaseFault_axles (f : FaultId) (s : State) :
    (releaseFault f s).axles = s.axles := by
  unfold releaseFault; split <;> simp
@[simp] theorem releaseFault_reference (f : FaultId) (s : State) :
    (releaseFault f s).reference = s.reference := by
  unfold releaseFault; split <;> simp
@[simp] theorem releaseFault_supervisor (f : FaultId) (s : State) :
    (releaseFault f s).supervisor = s.supervisor := by
  unfold releaseFault; split <;> simp
@[simp] theorem releaseFault_table (f : FaultId) (s : State) :
    (releaseFault f s).table = s.table := by
  unfold releaseFault; split <;> simp
@[simp] theorem releaseFault_queue (f : FaultId) (s : State) :
    (releaseFault f s).queue = s.queue := by
  unfold releaseFault; split <;> simp
@[simp] theorem releaseFault_engine (f : FaultId) (s : State) :
    (releaseFault f s).engine = s.engine := by
  unfold releaseFault; split <;> simp
@[simp] theorem releaseFault_commands (f : FaultId) (s : State) :
    (releaseFault f s).commands = s.commands := by
  unfold releaseFault; split <;> simp
@[simp] theorem releaseFault_ports (f : FaultId) (s : State) :
    (releaseFault f s).ports = s.ports := by
  unfold releaseFault; split <;> simp
@[simp] theorem releaseFault_instant (f : FaultId) (s : State) :
    (releaseFault f s).instant = s.instant := by
  unfold releaseFault; split <;> simp
@[simp] theorem releaseFault_pending (f : FaultId) (s : State) :
    (releaseFault f s).pending = s.pending := by
  unfold releaseFault; split <;> simp
@[simp] theorem releaseFault_lines_reset (f : FaultId) (s : State) :
    (releaseFault f s).lines.reset = s.lines.reset := by
  unfold releaseFault; split <;> simp
@[simp] theorem releaseFault_lines_shutoff (f : FaultId) (s : State) :
    (releaseFault f s).lines.shutoff = s.lines.shutoff := by
  unfold releaseFault; split <;> simp

@[simp] theorem lowerCorrections_lines (v : Nat) (s : State) :
    (lowerCorrections v s).lines = s.lines := by
  simp [lowerCorrections]
@[simp] theorem lowerCorrections_mode (v : Nat) (s : State) :
    (lowerCorrections v s).mode = s.mode := by
  simp [lowerCorrections]
@[simp] theorem lowerCorrections_params (v : Nat) (s : State) :
    (lowerCorrections v s).params = s.params := by
  simp [lowerCorrections]
@[simp] theorem lowerCorrections_maps (v : Nat) (s : State) :
    (lowerCorrections v s).maps = s.maps := by
  simp [lowerCorrections]
@[simp] theorem lowerCorrections_demand (v : Nat) (s : State) :
    (lowerCorrections v s).demand = s.demand := by
  simp [lowerCorrections]
@[simp] theorem lowerCorrections_axles (v : Nat) (s : State) :
    (lowerCorrections v s).axles = s.axles := by
  simp [lowerCorrections]
@[simp] theorem lowerCorrections_reference (v : Nat) (s : State) :
    (lowerCorrections v s).reference = s.reference := by
  simp [lowerCorrections]
@[simp] theorem lowerCorrections_supervisor (v : Nat) (s : State) :
    (lowerCorrections v s).supervisor = s.supervisor := by
  simp [lowerCorrections]
@[simp] theorem lowerCorrections_table (v : Nat) (s : State) :
    (lowerCorrections v s).table = s.table := by
  simp [lowerCorrections]
@[simp] theorem lowerCorrections_queue (v : Nat) (s : State) :
    (lowerCorrections v s).queue = s.queue := by
  simp [lowerCorrections]
@[simp] theorem lowerCorrections_faults (v : Nat) (s : State) :
    (lowerCorrections v s).faults = s.faults := by
  simp [lowerCorrections]
@[simp] theorem lowerCorrections_commands (v : Nat) (s : State) :
    (lowerCorrections v s).commands = s.commands := by
  simp [lowerCorrections]
@[simp] theorem lowerCorrections_ports (v : Nat) (s : State) :
    (lowerCorrections v s).ports = s.ports := by
  simp [lowerCorrections]
@[simp] theorem lowerCorrections_instant (v : Nat) (s : State) :
    (lowerCorrections v s).instant = s.instant := by
  simp [lowerCorrections]
@[simp] theorem lowerCorrections_pending (v : Nat) (s : State) :
    (lowerCorrections v s).pending = s.pending := by
  simp [lowerCorrections]

@[simp] theorem writeParam_mode (i : Fin 40) (v : Nat) (s : State) :
    (writeParam i v s).mode = s.mode := by
  unfold writeParam; repeat' split
  all_goals simp
@[simp] theorem writeParam_maps (i : Fin 40) (v : Nat) (s : State) :
    (writeParam i v s).maps = s.maps := by
  unfold writeParam; repeat' split
  all_goals simp
@[simp] theorem writeParam_demand (i : Fin 40) (v : Nat) (s : State) :
    (writeParam i v s).demand = s.demand := by
  unfold writeParam; repeat' split
  all_goals simp
@[simp] theorem writeParam_axles (i : Fin 40) (v : Nat) (s : State) :
    (writeParam i v s).axles = s.axles := by
  unfold writeParam; repeat' split
  all_goals simp
@[simp] theorem writeParam_reference (i : Fin 40) (v : Nat) (s : State) :
    (writeParam i v s).reference = s.reference := by
  unfold writeParam; repeat' split
  all_goals simp
@[simp] theorem writeParam_supervisor (i : Fin 40) (v : Nat) (s : State) :
    (writeParam i v s).supervisor = s.supervisor := by
  unfold writeParam; repeat' split
  all_goals simp
@[simp] theorem writeParam_table (i : Fin 40) (v : Nat) (s : State) :
    (writeParam i v s).table = s.table := by
  unfold writeParam; repeat' split
  all_goals simp
@[simp] theorem writeParam_queue (i : Fin 40) (v : Nat) (s : State) :
    (writeParam i v s).queue = s.queue := by
  unfold writeParam; repeat' split
  all_goals simp
@[simp] theorem writeParam_faults (i : Fin 40) (v : Nat) (s : State) :
    (writeParam i v s).faults = s.faults := by
  unfold writeParam; repeat' split
  all_goals simp
@[simp] theorem writeParam_commands (i : Fin 40) (v : Nat) (s : State) :
    (writeParam i v s).commands = s.commands := by
  unfold writeParam; repeat' split
  all_goals simp
@[simp] theorem writeParam_ports (i : Fin 40) (v : Nat) (s : State) :
    (writeParam i v s).ports = s.ports := by
  unfold writeParam; repeat' split
  all_goals simp
@[simp] theorem writeParam_instant (i : Fin 40) (v : Nat) (s : State) :
    (writeParam i v s).instant = s.instant := by
  unfold writeParam; repeat' split
  all_goals simp
@[simp] theorem writeParam_pending (i : Fin 40) (v : Nat) (s : State) :
    (writeParam i v s).pending = s.pending := by
  unfold writeParam; repeat' split
  all_goals simp
@[simp] theorem writeParam_lines_reset (i : Fin 40) (v : Nat) (s : State) :
    (writeParam i v s).lines.reset = s.lines.reset := by
  unfold writeParam; repeat' split
  all_goals simp
@[simp] theorem writeParam_lines_shutoff (i : Fin 40) (v : Nat) (s : State) :
    (writeParam i v s).lines.shutoff = s.lines.shutoff := by
  unfold writeParam; repeat' split
  all_goals simp

@[simp] theorem writeMap_lines (w : CellWrite) (s : State) : (writeMap w s).lines = s.lines := by
  simp [writeMap]
@[simp] theorem writeMap_mode (w : CellWrite) (s : State) : (writeMap w s).mode = s.mode := by
  simp [writeMap]
@[simp] theorem writeMap_params (w : CellWrite) (s : State) : (writeMap w s).params = s.params := by
  simp [writeMap]
@[simp] theorem writeMap_demand (w : CellWrite) (s : State) : (writeMap w s).demand = s.demand := by
  simp [writeMap]
@[simp] theorem writeMap_axles (w : CellWrite) (s : State) : (writeMap w s).axles = s.axles := by
  simp [writeMap]
@[simp] theorem writeMap_reference (w : CellWrite) (s : State) :
    (writeMap w s).reference = s.reference := by
  simp [writeMap]
@[simp] theorem writeMap_supervisor (w : CellWrite) (s : State) :
    (writeMap w s).supervisor = s.supervisor := by
  simp [writeMap]
@[simp] theorem writeMap_table (w : CellWrite) (s : State) : (writeMap w s).table = s.table := by
  simp [writeMap]
@[simp] theorem writeMap_queue (w : CellWrite) (s : State) : (writeMap w s).queue = s.queue := by
  simp [writeMap]
@[simp] theorem writeMap_faults (w : CellWrite) (s : State) : (writeMap w s).faults = s.faults := by
  simp [writeMap]
@[simp] theorem writeMap_engine (w : CellWrite) (s : State) : (writeMap w s).engine = s.engine := by
  simp [writeMap]
@[simp] theorem writeMap_commands (w : CellWrite) (s : State) :
    (writeMap w s).commands = s.commands := by
  simp [writeMap]
@[simp] theorem writeMap_ports (w : CellWrite) (s : State) : (writeMap w s).ports = s.ports := by
  simp [writeMap]
@[simp] theorem writeMap_instant (w : CellWrite) (s : State) :
    (writeMap w s).instant = s.instant := by
  simp [writeMap]
@[simp] theorem writeMap_pending (w : CellWrite) (s : State) :
    (writeMap w s).pending = s.pending := by
  simp [writeMap]

@[simp] theorem markIfClamped_lines (p : Port) (b : Bool) (s : State) :
    (markIfClamped p b s).lines = s.lines := by
  unfold markIfClamped; split <;> simp
@[simp] theorem markIfClamped_mode (p : Port) (b : Bool) (s : State) :
    (markIfClamped p b s).mode = s.mode := by
  unfold markIfClamped; split <;> simp
@[simp] theorem markIfClamped_params (p : Port) (b : Bool) (s : State) :
    (markIfClamped p b s).params = s.params := by
  unfold markIfClamped; split <;> simp
@[simp] theorem markIfClamped_maps (p : Port) (b : Bool) (s : State) :
    (markIfClamped p b s).maps = s.maps := by
  unfold markIfClamped; split <;> simp
@[simp] theorem markIfClamped_demand (p : Port) (b : Bool) (s : State) :
    (markIfClamped p b s).demand = s.demand := by
  unfold markIfClamped; split <;> simp
@[simp] theorem markIfClamped_axles (p : Port) (b : Bool) (s : State) :
    (markIfClamped p b s).axles = s.axles := by
  unfold markIfClamped; split <;> simp
@[simp] theorem markIfClamped_reference (p : Port) (b : Bool) (s : State) :
    (markIfClamped p b s).reference = s.reference := by
  unfold markIfClamped; split <;> simp
@[simp] theorem markIfClamped_supervisor (p : Port) (b : Bool) (s : State) :
    (markIfClamped p b s).supervisor = s.supervisor := by
  unfold markIfClamped; split <;> simp
@[simp] theorem markIfClamped_table (p : Port) (b : Bool) (s : State) :
    (markIfClamped p b s).table = s.table := by
  unfold markIfClamped; split <;> simp
@[simp] theorem markIfClamped_queue (p : Port) (b : Bool) (s : State) :
    (markIfClamped p b s).queue = s.queue := by
  unfold markIfClamped; split <;> simp
@[simp] theorem markIfClamped_faults (p : Port) (b : Bool) (s : State) :
    (markIfClamped p b s).faults = s.faults := by
  unfold markIfClamped; split <;> simp
@[simp] theorem markIfClamped_engine (p : Port) (b : Bool) (s : State) :
    (markIfClamped p b s).engine = s.engine := by
  unfold markIfClamped; split <;> simp
@[simp] theorem markIfClamped_commands (p : Port) (b : Bool) (s : State) :
    (markIfClamped p b s).commands = s.commands := by
  unfold markIfClamped; split <;> simp
@[simp] theorem markIfClamped_instant (p : Port) (b : Bool) (s : State) :
    (markIfClamped p b s).instant = s.instant := by
  unfold markIfClamped; split <;> simp
@[simp] theorem markIfClamped_pending (p : Port) (b : Bool) (s : State) :
    (markIfClamped p b s).pending = s.pending := by
  unfold markIfClamped; split <;> simp

@[simp] theorem storeDemand_lines (p : Port) (t : Half) (b : Byte) (s : State) :
    (storeDemand p t b s).lines = s.lines := by
  unfold storeDemand; dsimp only; split <;> simp
@[simp] theorem storeDemand_mode (p : Port) (t : Half) (b : Byte) (s : State) :
    (storeDemand p t b s).mode = s.mode := by
  unfold storeDemand; dsimp only; split <;> simp
@[simp] theorem storeDemand_params (p : Port) (t : Half) (b : Byte) (s : State) :
    (storeDemand p t b s).params = s.params := by
  unfold storeDemand; dsimp only; split <;> simp
@[simp] theorem storeDemand_maps (p : Port) (t : Half) (b : Byte) (s : State) :
    (storeDemand p t b s).maps = s.maps := by
  unfold storeDemand; dsimp only; split <;> simp
@[simp] theorem storeDemand_axles (p : Port) (t : Half) (b : Byte) (s : State) :
    (storeDemand p t b s).axles = s.axles := by
  unfold storeDemand; dsimp only; split <;> simp
@[simp] theorem storeDemand_reference (p : Port) (t : Half) (b : Byte) (s : State) :
    (storeDemand p t b s).reference = s.reference := by
  unfold storeDemand; dsimp only; split <;> simp
@[simp] theorem storeDemand_supervisor (p : Port) (t : Half) (b : Byte) (s : State) :
    (storeDemand p t b s).supervisor = s.supervisor := by
  unfold storeDemand; dsimp only; split <;> simp
@[simp] theorem storeDemand_table (p : Port) (t : Half) (b : Byte) (s : State) :
    (storeDemand p t b s).table = s.table := by
  unfold storeDemand; dsimp only; split <;> simp
@[simp] theorem storeDemand_faults (p : Port) (t : Half) (b : Byte) (s : State) :
    (storeDemand p t b s).faults = s.faults := by
  unfold storeDemand; dsimp only; split <;> simp
@[simp] theorem storeDemand_engine (p : Port) (t : Half) (b : Byte) (s : State) :
    (storeDemand p t b s).engine = s.engine := by
  unfold storeDemand; dsimp only; split <;> simp
@[simp] theorem storeDemand_commands (p : Port) (t : Half) (b : Byte) (s : State) :
    (storeDemand p t b s).commands = s.commands := by
  unfold storeDemand; dsimp only; split <;> simp
@[simp] theorem storeDemand_instant (p : Port) (t : Half) (b : Byte) (s : State) :
    (storeDemand p t b s).instant = s.instant := by
  unfold storeDemand; dsimp only; split <;> simp
@[simp] theorem storeDemand_pending (p : Port) (t : Half) (b : Byte) (s : State) :
    (storeDemand p t b s).pending = s.pending := by
  unfold storeDemand; dsimp only; split <;> simp

@[simp] theorem storeEnvelope_lines (p : Port) (d r v : Half) (b : Byte) (s : State) :
    (storeEnvelope p d r v b s).lines = s.lines := by
  unfold storeEnvelope; split <;> simp
@[simp] theorem storeEnvelope_mode (p : Port) (d r v : Half) (b : Byte) (s : State) :
    (storeEnvelope p d r v b s).mode = s.mode := by
  unfold storeEnvelope; split <;> simp
@[simp] theorem storeEnvelope_params (p : Port) (d r v : Half) (b : Byte) (s : State) :
    (storeEnvelope p d r v b s).params = s.params := by
  unfold storeEnvelope; split <;> simp
@[simp] theorem storeEnvelope_maps (p : Port) (d r v : Half) (b : Byte) (s : State) :
    (storeEnvelope p d r v b s).maps = s.maps := by
  unfold storeEnvelope; split <;> simp
@[simp] theorem storeEnvelope_demand (p : Port) (d r v : Half) (b : Byte) (s : State) :
    (storeEnvelope p d r v b s).demand = s.demand := by
  unfold storeEnvelope; split <;> simp
@[simp] theorem storeEnvelope_reference (p : Port) (d r v : Half) (b : Byte) (s : State) :
    (storeEnvelope p d r v b s).reference = s.reference := by
  unfold storeEnvelope; split <;> simp
@[simp] theorem storeEnvelope_supervisor (p : Port) (d r v : Half) (b : Byte) (s : State) :
    (storeEnvelope p d r v b s).supervisor = s.supervisor := by
  unfold storeEnvelope; split <;> simp
@[simp] theorem storeEnvelope_table (p : Port) (d r v : Half) (b : Byte) (s : State) :
    (storeEnvelope p d r v b s).table = s.table := by
  unfold storeEnvelope; split <;> simp
@[simp] theorem storeEnvelope_queue (p : Port) (d r v : Half) (b : Byte) (s : State) :
    (storeEnvelope p d r v b s).queue = s.queue := by
  unfold storeEnvelope; split <;> simp
@[simp] theorem storeEnvelope_faults (p : Port) (d r v : Half) (b : Byte) (s : State) :
    (storeEnvelope p d r v b s).faults = s.faults := by
  unfold storeEnvelope; split <;> simp
@[simp] theorem storeEnvelope_engine (p : Port) (d r v : Half) (b : Byte) (s : State) :
    (storeEnvelope p d r v b s).engine = s.engine := by
  unfold storeEnvelope; split <;> simp
@[simp] theorem storeEnvelope_commands (p : Port) (d r v : Half) (b : Byte) (s : State) :
    (storeEnvelope p d r v b s).commands = s.commands := by
  unfold storeEnvelope; split <;> simp
@[simp] theorem storeEnvelope_instant (p : Port) (d r v : Half) (b : Byte) (s : State) :
    (storeEnvelope p d r v b s).instant = s.instant := by
  unfold storeEnvelope; split <;> simp
@[simp] theorem storeEnvelope_pending (p : Port) (d r v : Half) (b : Byte) (s : State) :
    (storeEnvelope p d r v b s).pending = s.pending := by
  unfold storeEnvelope; split <;> simp

@[simp] theorem storeReference_lines (p : Port) (v : Half) (b : Byte) (s : State) :
    (storeReference p v b s).lines = s.lines := by
  simp [storeReference]
@[simp] theorem storeReference_mode (p : Port) (v : Half) (b : Byte) (s : State) :
    (storeReference p v b s).mode = s.mode := by
  simp [storeReference]
@[simp] theorem storeReference_params (p : Port) (v : Half) (b : Byte) (s : State) :
    (storeReference p v b s).params = s.params := by
  simp [storeReference]
@[simp] theorem storeReference_maps (p : Port) (v : Half) (b : Byte) (s : State) :
    (storeReference p v b s).maps = s.maps := by
  simp [storeReference]
@[simp] theorem storeReference_demand (p : Port) (v : Half) (b : Byte) (s : State) :
    (storeReference p v b s).demand = s.demand := by
  simp [storeReference]
@[simp] theorem storeReference_axles (p : Port) (v : Half) (b : Byte) (s : State) :
    (storeReference p v b s).axles = s.axles := by
  simp [storeReference]
@[simp] theorem storeReference_supervisor (p : Port) (v : Half) (b : Byte) (s : State) :
    (storeReference p v b s).supervisor = s.supervisor := by
  simp [storeReference]
@[simp] theorem storeReference_table (p : Port) (v : Half) (b : Byte) (s : State) :
    (storeReference p v b s).table = s.table := by
  simp [storeReference]
@[simp] theorem storeReference_queue (p : Port) (v : Half) (b : Byte) (s : State) :
    (storeReference p v b s).queue = s.queue := by
  simp [storeReference]
@[simp] theorem storeReference_faults (p : Port) (v : Half) (b : Byte) (s : State) :
    (storeReference p v b s).faults = s.faults := by
  simp [storeReference]
@[simp] theorem storeReference_engine (p : Port) (v : Half) (b : Byte) (s : State) :
    (storeReference p v b s).engine = s.engine := by
  simp [storeReference]
@[simp] theorem storeReference_commands (p : Port) (v : Half) (b : Byte) (s : State) :
    (storeReference p v b s).commands = s.commands := by
  simp [storeReference]
@[simp] theorem storeReference_instant (p : Port) (v : Half) (b : Byte) (s : State) :
    (storeReference p v b s).instant = s.instant := by
  simp [storeReference]
@[simp] theorem storeReference_pending (p : Port) (v : Half) (b : Byte) (s : State) :
    (storeReference p v b s).pending = s.pending := by
  simp [storeReference]

@[simp] theorem endTransmission_lines (p : Port) (s : State) :
    (endTransmission p s).lines = s.lines := by
  unfold endTransmission; dsimp only; split <;> simp
@[simp] theorem endTransmission_mode (p : Port) (s : State) :
    (endTransmission p s).mode = s.mode := by
  unfold endTransmission; dsimp only; split <;> simp
@[simp] theorem endTransmission_params (p : Port) (s : State) :
    (endTransmission p s).params = s.params := by
  unfold endTransmission; dsimp only; split <;> simp
@[simp] theorem endTransmission_maps (p : Port) (s : State) :
    (endTransmission p s).maps = s.maps := by
  unfold endTransmission; dsimp only; split <;> simp
@[simp] theorem endTransmission_demand (p : Port) (s : State) :
    (endTransmission p s).demand = s.demand := by
  unfold endTransmission; dsimp only; split <;> simp
@[simp] theorem endTransmission_axles (p : Port) (s : State) :
    (endTransmission p s).axles = s.axles := by
  unfold endTransmission; dsimp only; split <;> simp
@[simp] theorem endTransmission_reference (p : Port) (s : State) :
    (endTransmission p s).reference = s.reference := by
  unfold endTransmission; dsimp only; split <;> simp
@[simp] theorem endTransmission_supervisor (p : Port) (s : State) :
    (endTransmission p s).supervisor = s.supervisor := by
  unfold endTransmission; dsimp only; split <;> simp
@[simp] theorem endTransmission_table (p : Port) (s : State) :
    (endTransmission p s).table = s.table := by
  unfold endTransmission; dsimp only; split <;> simp
@[simp] theorem endTransmission_queue (p : Port) (s : State) :
    (endTransmission p s).queue = s.queue := by
  unfold endTransmission; dsimp only; split <;> simp
@[simp] theorem endTransmission_faults (p : Port) (s : State) :
    (endTransmission p s).faults = s.faults := by
  unfold endTransmission; dsimp only; split <;> simp
@[simp] theorem endTransmission_engine (p : Port) (s : State) :
    (endTransmission p s).engine = s.engine := by
  unfold endTransmission; dsimp only; split <;> simp
@[simp] theorem endTransmission_commands (p : Port) (s : State) :
    (endTransmission p s).commands = s.commands := by
  unfold endTransmission; dsimp only; split <;> simp
@[simp] theorem endTransmission_instant (p : Port) (s : State) :
    (endTransmission p s).instant = s.instant := by
  unfold endTransmission; dsimp only; split <;> simp
@[simp] theorem endTransmission_pending (p : Port) (s : State) :
    (endTransmission p s).pending = s.pending := by
  unfold endTransmission; dsimp only; split <;> simp

@[simp] theorem setShutoff_mode (b : Bool) (s : State) : (setShutoff b s).mode = s.mode := by
  simp [setShutoff]
@[simp] theorem setShutoff_params (b : Bool) (s : State) : (setShutoff b s).params = s.params := by
  simp [setShutoff]
@[simp] theorem setShutoff_maps (b : Bool) (s : State) : (setShutoff b s).maps = s.maps := by
  simp [setShutoff]
@[simp] theorem setShutoff_demand (b : Bool) (s : State) : (setShutoff b s).demand = s.demand := by
  simp [setShutoff]
@[simp] theorem setShutoff_axles (b : Bool) (s : State) : (setShutoff b s).axles = s.axles := by
  simp [setShutoff]
@[simp] theorem setShutoff_reference (b : Bool) (s : State) :
    (setShutoff b s).reference = s.reference := by
  simp [setShutoff]
@[simp] theorem setShutoff_supervisor (b : Bool) (s : State) :
    (setShutoff b s).supervisor = s.supervisor := by
  simp [setShutoff]
@[simp] theorem setShutoff_table (b : Bool) (s : State) : (setShutoff b s).table = s.table := by
  simp [setShutoff]
@[simp] theorem setShutoff_queue (b : Bool) (s : State) : (setShutoff b s).queue = s.queue := by
  simp [setShutoff]
@[simp] theorem setShutoff_faults (b : Bool) (s : State) : (setShutoff b s).faults = s.faults := by
  simp [setShutoff]
@[simp] theorem setShutoff_engine (b : Bool) (s : State) : (setShutoff b s).engine = s.engine := by
  simp [setShutoff]
@[simp] theorem setShutoff_commands (b : Bool) (s : State) :
    (setShutoff b s).commands = s.commands := by
  simp [setShutoff]
@[simp] theorem setShutoff_ports (b : Bool) (s : State) : (setShutoff b s).ports = s.ports := by
  simp [setShutoff]
@[simp] theorem setShutoff_instant (b : Bool) (s : State) :
    (setShutoff b s).instant = s.instant := by
  simp [setShutoff]
@[simp] theorem setShutoff_pending (b : Bool) (s : State) :
    (setShutoff b s).pending = s.pending := by
  simp [setShutoff]
@[simp] theorem setShutoff_lines_reset (b : Bool) (s : State) :
    (setShutoff b s).lines.reset = s.lines.reset := by
  simp [setShutoff]

@[simp] theorem expireDeadline_mode (p : Port) (s : State) :
    (expireDeadline p s).mode = s.mode := by
  unfold expireDeadline; dsimp only; split <;> simp
@[simp] theorem expireDeadline_params (p : Port) (s : State) :
    (expireDeadline p s).params = s.params := by
  unfold expireDeadline; dsimp only; split <;> simp
@[simp] theorem expireDeadline_maps (p : Port) (s : State) :
    (expireDeadline p s).maps = s.maps := by
  unfold expireDeadline; dsimp only; split <;> simp
@[simp] theorem expireDeadline_demand (p : Port) (s : State) :
    (expireDeadline p s).demand = s.demand := by
  unfold expireDeadline; dsimp only; split <;> simp
@[simp] theorem expireDeadline_axles (p : Port) (s : State) :
    (expireDeadline p s).axles = s.axles := by
  unfold expireDeadline; dsimp only; split <;> simp
@[simp] theorem expireDeadline_reference (p : Port) (s : State) :
    (expireDeadline p s).reference = s.reference := by
  unfold expireDeadline; dsimp only; split <;> simp
@[simp] theorem expireDeadline_table (p : Port) (s : State) :
    (expireDeadline p s).table = s.table := by
  unfold expireDeadline; dsimp only; split <;> simp
@[simp] theorem expireDeadline_engine (p : Port) (s : State) :
    (expireDeadline p s).engine = s.engine := by
  unfold expireDeadline; dsimp only; split <;> simp
@[simp] theorem expireDeadline_commands (p : Port) (s : State) :
    (expireDeadline p s).commands = s.commands := by
  unfold expireDeadline; dsimp only; split <;> simp
@[simp] theorem expireDeadline_instant (p : Port) (s : State) :
    (expireDeadline p s).instant = s.instant := by
  unfold expireDeadline; dsimp only; split <;> simp
@[simp] theorem expireDeadline_pending (p : Port) (s : State) :
    (expireDeadline p s).pending = s.pending := by
  unfold expireDeadline; dsimp only; split <;> simp
@[simp] theorem expireDeadline_lines_reset (p : Port) (s : State) :
    (expireDeadline p s).lines.reset = s.lines.reset := by
  unfold expireDeadline; dsimp only; split <;> simp
@[simp] theorem expireDeadline_lines_shutoff (p : Port) (s : State) :
    (expireDeadline p s).lines.shutoff = s.lines.shutoff := by
  unfold expireDeadline; dsimp only; split <;> simp

@[simp] theorem settleDeadline_mode (p : Port) (s : State) :
    (settleDeadline p s).mode = s.mode := by
  unfold settleDeadline; split <;> simp
@[simp] theorem settleDeadline_params (p : Port) (s : State) :
    (settleDeadline p s).params = s.params := by
  unfold settleDeadline; split <;> simp
@[simp] theorem settleDeadline_maps (p : Port) (s : State) :
    (settleDeadline p s).maps = s.maps := by
  unfold settleDeadline; split <;> simp
@[simp] theorem settleDeadline_demand (p : Port) (s : State) :
    (settleDeadline p s).demand = s.demand := by
  unfold settleDeadline; split <;> simp
@[simp] theorem settleDeadline_axles (p : Port) (s : State) :
    (settleDeadline p s).axles = s.axles := by
  unfold settleDeadline; split <;> simp
@[simp] theorem settleDeadline_reference (p : Port) (s : State) :
    (settleDeadline p s).reference = s.reference := by
  unfold settleDeadline; split <;> simp
@[simp] theorem settleDeadline_table (p : Port) (s : State) :
    (settleDeadline p s).table = s.table := by
  unfold settleDeadline; split <;> simp
@[simp] theorem settleDeadline_engine (p : Port) (s : State) :
    (settleDeadline p s).engine = s.engine := by
  unfold settleDeadline; split <;> simp
@[simp] theorem settleDeadline_commands (p : Port) (s : State) :
    (settleDeadline p s).commands = s.commands := by
  unfold settleDeadline; split <;> simp
@[simp] theorem settleDeadline_instant (p : Port) (s : State) :
    (settleDeadline p s).instant = s.instant := by
  unfold settleDeadline; split <;> simp
@[simp] theorem settleDeadline_pending (p : Port) (s : State) :
    (settleDeadline p s).pending = s.pending := by
  unfold settleDeadline; split <;> simp
@[simp] theorem settleDeadline_lines_reset (p : Port) (s : State) :
    (settleDeadline p s).lines.reset = s.lines.reset := by
  unfold settleDeadline; split <;> simp
@[simp] theorem settleDeadline_lines_shutoff (p : Port) (s : State) :
    (settleDeadline p s).lines.shutoff = s.lines.shutoff := by
  unfold settleDeadline; split <;> simp

@[simp] theorem settleDeadlines_mode (s : State) : (settleDeadlines s).mode = s.mode := by
  simp [settleDeadlines]
@[simp] theorem settleDeadlines_params (s : State) : (settleDeadlines s).params = s.params := by
  simp [settleDeadlines]
@[simp] theorem settleDeadlines_maps (s : State) : (settleDeadlines s).maps = s.maps := by
  simp [settleDeadlines]
@[simp] theorem settleDeadlines_demand (s : State) : (settleDeadlines s).demand = s.demand := by
  simp [settleDeadlines]
@[simp] theorem settleDeadlines_axles (s : State) : (settleDeadlines s).axles = s.axles := by
  simp [settleDeadlines]
@[simp] theorem settleDeadlines_reference (s : State) :
    (settleDeadlines s).reference = s.reference := by
  simp [settleDeadlines]
@[simp] theorem settleDeadlines_table (s : State) : (settleDeadlines s).table = s.table := by
  simp [settleDeadlines]
@[simp] theorem settleDeadlines_engine (s : State) : (settleDeadlines s).engine = s.engine := by
  simp [settleDeadlines]
@[simp] theorem settleDeadlines_commands (s : State) :
    (settleDeadlines s).commands = s.commands := by
  simp [settleDeadlines]
@[simp] theorem settleDeadlines_instant (s : State) : (settleDeadlines s).instant = s.instant := by
  simp [settleDeadlines]
@[simp] theorem settleDeadlines_pending (s : State) : (settleDeadlines s).pending = s.pending := by
  simp [settleDeadlines]
@[simp] theorem settleDeadlines_lines_reset (s : State) :
    (settleDeadlines s).lines.reset = s.lines.reset := by
  simp [settleDeadlines]
@[simp] theorem settleDeadlines_lines_shutoff (s : State) :
    (settleDeadlines s).lines.shutoff = s.lines.shutoff := by
  simp [settleDeadlines]

@[simp] theorem finish_mode (r : Option Remainder) (s : State) : (finish r s).mode = s.mode := by
  unfold finish; repeat' split
  all_goals simp
@[simp] theorem finish_params (r : Option Remainder) (s : State) :
    (finish r s).params = s.params := by
  unfold finish; repeat' split
  all_goals simp
@[simp] theorem finish_maps (r : Option Remainder) (s : State) : (finish r s).maps = s.maps := by
  unfold finish; repeat' split
  all_goals simp
@[simp] theorem finish_axles (r : Option Remainder) (s : State) : (finish r s).axles = s.axles := by
  unfold finish; repeat' split
  all_goals simp
@[simp] theorem finish_table (r : Option Remainder) (s : State) : (finish r s).table = s.table := by
  unfold finish; repeat' split
  all_goals simp
@[simp] theorem finish_commands (r : Option Remainder) (s : State) :
    (finish r s).commands = s.commands := by
  unfold finish; repeat' split
  all_goals simp
@[simp] theorem finish_pending (r : Option Remainder) (s : State) :
    (finish r s).pending = s.pending := by
  unfold finish; repeat' split
  all_goals simp
@[simp] theorem finish_lines_reset (r : Option Remainder) (s : State) :
    (finish r s).lines.reset = s.lines.reset := by
  unfold finish; repeat' split
  all_goals simp
@[simp] theorem finish_lines_shutoff (r : Option Remainder) (s : State) :
    (finish r s).lines.shutoff = s.lines.shutoff := by
  unfold finish; repeat' split
  all_goals simp

@[simp] theorem dropTiming_lines (s : State) : (dropTiming s).lines = s.lines := by
  simp [dropTiming]
@[simp] theorem dropTiming_mode (s : State) : (dropTiming s).mode = s.mode := by
  simp [dropTiming]
@[simp] theorem dropTiming_params (s : State) : (dropTiming s).params = s.params := by
  simp [dropTiming]
@[simp] theorem dropTiming_maps (s : State) : (dropTiming s).maps = s.maps := by
  simp [dropTiming]
@[simp] theorem dropTiming_demand (s : State) : (dropTiming s).demand = s.demand := by
  simp [dropTiming]
@[simp] theorem dropTiming_axles (s : State) : (dropTiming s).axles = s.axles := by
  simp [dropTiming]
@[simp] theorem dropTiming_reference (s : State) : (dropTiming s).reference = s.reference := by
  simp [dropTiming]
@[simp] theorem dropTiming_supervisor (s : State) : (dropTiming s).supervisor = s.supervisor := by
  simp [dropTiming]
@[simp] theorem dropTiming_table (s : State) : (dropTiming s).table = s.table := by
  simp [dropTiming]
@[simp] theorem dropTiming_queue (s : State) : (dropTiming s).queue = s.queue := by
  simp [dropTiming]
@[simp] theorem dropTiming_faults (s : State) : (dropTiming s).faults = s.faults := by
  simp [dropTiming]
@[simp] theorem dropTiming_engine (s : State) : (dropTiming s).engine = s.engine := by
  simp [dropTiming]
@[simp] theorem dropTiming_commands (s : State) : (dropTiming s).commands = s.commands := by
  simp [dropTiming]
@[simp] theorem dropTiming_ports (s : State) : (dropTiming s).ports = s.ports := by
  simp [dropTiming]
@[simp] theorem dropTiming_pending (s : State) : (dropTiming s).pending = s.pending := by
  simp [dropTiming]

@[simp] theorem dropRemainder_lines (s : State) : (dropRemainder s).lines = s.lines := rfl
@[simp] theorem dropRemainder_mode (s : State) : (dropRemainder s).mode = s.mode := rfl
@[simp] theorem dropRemainder_params (s : State) : (dropRemainder s).params = s.params := rfl
@[simp] theorem dropRemainder_maps (s : State) : (dropRemainder s).maps = s.maps := rfl
@[simp] theorem dropRemainder_demand (s : State) : (dropRemainder s).demand = s.demand := rfl
@[simp] theorem dropRemainder_axles (s : State) : (dropRemainder s).axles = s.axles := rfl
@[simp] theorem dropRemainder_reference (s : State) : (dropRemainder s).reference = s.reference := rfl
@[simp] theorem dropRemainder_supervisor (s : State) : (dropRemainder s).supervisor = s.supervisor := rfl
@[simp] theorem dropRemainder_table (s : State) : (dropRemainder s).table = s.table := rfl
@[simp] theorem dropRemainder_queue (s : State) : (dropRemainder s).queue = s.queue := rfl
@[simp] theorem dropRemainder_faults (s : State) : (dropRemainder s).faults = s.faults := rfl
@[simp] theorem dropRemainder_engine (s : State) : (dropRemainder s).engine = s.engine := rfl
@[simp] theorem dropRemainder_commands (s : State) : (dropRemainder s).commands = s.commands := rfl
@[simp] theorem dropRemainder_ports (s : State) : (dropRemainder s).ports = s.ports := rfl
@[simp] theorem dropRemainder_pending (s : State) : (dropRemainder s).pending = s.pending := rfl

@[simp] theorem endInstant_mode (r : Option Remainder) (s : State) :
    (endInstant r s).mode = s.mode := by
  simp [endInstant]
@[simp] theorem endInstant_params (r : Option Remainder) (s : State) :
    (endInstant r s).params = s.params := by
  simp [endInstant]
@[simp] theorem endInstant_maps (r : Option Remainder) (s : State) :
    (endInstant r s).maps = s.maps := by
  simp [endInstant]
@[simp] theorem endInstant_axles (r : Option Remainder) (s : State) :
    (endInstant r s).axles = s.axles := by
  simp [endInstant]
@[simp] theorem endInstant_table (r : Option Remainder) (s : State) :
    (endInstant r s).table = s.table := by
  simp [endInstant]
@[simp] theorem endInstant_pending (r : Option Remainder) (s : State) :
    (endInstant r s).pending = s.pending := by
  simp [endInstant]
@[simp] theorem endInstant_lines_reset (r : Option Remainder) (s : State) :
    (endInstant r s).lines.reset = s.lines.reset := by
  simp [endInstant]
@[simp] theorem endInstant_lines_shutoff (r : Option Remainder) (s : State) :
    (endInstant r s).lines.shutoff = s.lines.shutoff := by
  simp [endInstant]

@[simp] theorem opened_mode (s : State) : (opened s).mode = s.mode := by
  unfold opened; split <;> simp
@[simp] theorem opened_params (s : State) : (opened s).params = s.params := by
  unfold opened; split <;> simp
@[simp] theorem opened_maps (s : State) : (opened s).maps = s.maps := by
  unfold opened; split <;> simp
@[simp] theorem opened_axles (s : State) : (opened s).axles = s.axles := by
  unfold opened; split <;> simp
@[simp] theorem opened_table (s : State) : (opened s).table = s.table := by
  unfold opened; split <;> simp
@[simp] theorem opened_pending (s : State) : (opened s).pending = s.pending := by
  unfold opened; split <;> simp
@[simp] theorem opened_lines_reset (s : State) : (opened s).lines.reset = s.lines.reset := by
  unfold opened; split <;> simp
@[simp] theorem opened_lines_shutoff (s : State) : (opened s).lines.shutoff = s.lines.shutoff := by
  unfold opened; split <;> simp

@[simp] theorem endUnlessJoined_mode (s : State) :
    (endUnlessJoined s).mode = s.mode := by
  unfold endUnlessJoined; split <;> simp
@[simp] theorem endUnlessJoined_params (s : State) :
    (endUnlessJoined s).params = s.params := by
  unfold endUnlessJoined; split <;> simp
@[simp] theorem endUnlessJoined_maps (s : State) :
    (endUnlessJoined s).maps = s.maps := by
  unfold endUnlessJoined; split <;> simp
@[simp] theorem endUnlessJoined_axles (s : State) :
    (endUnlessJoined s).axles = s.axles := by
  unfold endUnlessJoined; split <;> simp
@[simp] theorem endUnlessJoined_table (s : State) :
    (endUnlessJoined s).table = s.table := by
  unfold endUnlessJoined; split <;> simp
@[simp] theorem endUnlessJoined_pending (s : State) :
    (endUnlessJoined s).pending = s.pending := by
  unfold endUnlessJoined; split <;> simp
@[simp] theorem endUnlessJoined_lines_reset (s : State) :
    (endUnlessJoined s).lines.reset = s.lines.reset := by
  unfold endUnlessJoined; split <;> simp
@[simp] theorem endUnlessJoined_lines_shutoff (s : State) :
    (endUnlessJoined s).lines.shutoff = s.lines.shutoff := by
  unfold endUnlessJoined; split <;> simp

@[simp] theorem closed_mode (w : State) (s : State) : (closed w s).mode = s.mode := by
  simp [closed]
@[simp] theorem closed_params (w : State) (s : State) : (closed w s).params = s.params := by
  simp [closed]
@[simp] theorem closed_maps (w : State) (s : State) : (closed w s).maps = s.maps := by
  simp [closed]
@[simp] theorem closed_axles (w : State) (s : State) : (closed w s).axles = s.axles := by
  simp [closed]
@[simp] theorem closed_table (w : State) (s : State) : (closed w s).table = s.table := by
  simp [closed]
@[simp] theorem closed_pending (w : State) (s : State) : (closed w s).pending = s.pending := by
  simp [closed]
@[simp] theorem closed_lines_reset (w : State) (s : State) :
    (closed w s).lines.reset = s.lines.reset := by
  simp [closed]
@[simp] theorem closed_lines_shutoff (w : State) (s : State) :
    (closed w s).lines.shutoff = s.lines.shutoff := by
  simp [closed]

@[simp] theorem completeInFlight_mode (s : State) : (completeInFlight s).mode = s.mode := by
  unfold completeInFlight; split <;> simp
@[simp] theorem completeInFlight_params (s : State) : (completeInFlight s).params = s.params := by
  unfold completeInFlight; split <;> simp
@[simp] theorem completeInFlight_maps (s : State) : (completeInFlight s).maps = s.maps := by
  unfold completeInFlight; split <;> simp
@[simp] theorem completeInFlight_demand (s : State) : (completeInFlight s).demand = s.demand := by
  unfold completeInFlight; split <;> simp
@[simp] theorem completeInFlight_axles (s : State) : (completeInFlight s).axles = s.axles := by
  unfold completeInFlight; split <;> simp
@[simp] theorem completeInFlight_reference (s : State) :
    (completeInFlight s).reference = s.reference := by
  unfold completeInFlight; split <;> simp
@[simp] theorem completeInFlight_supervisor (s : State) :
    (completeInFlight s).supervisor = s.supervisor := by
  unfold completeInFlight; split <;> simp
@[simp] theorem completeInFlight_table (s : State) : (completeInFlight s).table = s.table := by
  unfold completeInFlight; split <;> simp
@[simp] theorem completeInFlight_instant (s : State) :
    (completeInFlight s).instant = s.instant := by
  unfold completeInFlight; split <;> simp
@[simp] theorem completeInFlight_pending (s : State) :
    (completeInFlight s).pending = s.pending := by
  unfold completeInFlight; split <;> simp
@[simp] theorem completeInFlight_lines_reset (s : State) :
    (completeInFlight s).lines.reset = s.lines.reset := by
  unfold completeInFlight; split <;> simp
@[simp] theorem completeInFlight_lines_shutoff (s : State) :
    (completeInFlight s).lines.shutoff = s.lines.shutoff := by
  unfold completeInFlight; split <;> simp


end Sys2Proof.Machine
end

