-- ==== Sys2Proof/Laws/Instants.lean ====
section
/-! SUPPORT. What surrounds every command (Machine/Instants), said once: nothing where nothing is left of an
earlier instant; and never a receiver or a reply slot. -/
namespace Sys2Proof.Machine

@[simp] theorem enterFault_receiver (f : FaultId) (s : State) (q : Port) :
    ((enterFault f s).port q).receiver = (s.port q).receiver := by
  unfold enterFault; dsimp only
  split <;> simp [reevaluateLine, triggerStatusAll, markFaultAll, State.port, setFault, abortQueue]
@[simp] theorem enterFault_reply (f : FaultId) (s : State) (q : Port) :
    ((enterFault f s).port q).reply = (s.port q).reply := by
  unfold enterFault; dsimp only
  split <;> simp [reevaluateLine, triggerStatusAll, markFaultAll, State.port, setFault, abortQueue]
@[simp] theorem enterFault_sending (f : FaultId) (s : State) (q : Port) :
    ((enterFault f s).port q).sending = (s.port q).sending := by
  unfold enterFault; dsimp only
  split <;> simp [reevaluateLine, triggerStatusAll, markFaultAll, State.port, setFault, abortQueue]

@[simp] theorem passDeadline_receiver (p : Port) (b : Bool) (s : State) (q : Port) :
    ((passDeadline p b s).port q).receiver = (s.port q).receiver := by
  unfold passDeadline staleEvent; split <;> simp [State.port]
  exact enterFault_receiver _ _ _
@[simp] theorem passDeadline_reply (p : Port) (b : Bool) (s : State) (q : Port) :
    ((passDeadline p b s).port q).reply = (s.port q).reply := by
  unfold passDeadline staleEvent; split <;> simp [State.port]
  exact enterFault_reply _ _ _
@[simp] theorem passDeadline_sending (p : Port) (b : Bool) (s : State) (q : Port) :
    ((passDeadline p b s).port q).sending = (s.port q).sending := by
  unfold passDeadline staleEvent; split <;> simp [State.port]
  exact enterFault_sending _ _ _

@[simp] theorem settleDeadline_receiver (p q : Port) (s : State) :
    ((settleDeadline p s).port q).receiver = (s.port q).receiver := by
  unfold settleDeadline; split <;> simp
@[simp] theorem settleDeadline_reply (p q : Port) (s : State) :
    ((settleDeadline p s).port q).reply = (s.port q).reply := by
  unfold settleDeadline; split <;> simp
@[simp] theorem settleDeadline_sending (p q : Port) (s : State) :
    ((settleDeadline p s).port q).sending = (s.port q).sending := by
  unfold settleDeadline; split <;> simp

@[simp] theorem markIfClamped_receiver (p q : Port) (b : Bool) (s : State) :
    ((markIfClamped p b s).port q).receiver = (s.port q).receiver := by
  unfold markIfClamped markClamped; split
  · by_cases h : q = p <;> simp [h]
  · rfl
@[simp] theorem markIfClamped_reply (p q : Port) (b : Bool) (s : State) :
    ((markIfClamped p b s).port q).reply = (s.port q).reply := by
  unfold markIfClamped markClamped; split
  · by_cases h : q = p <;> simp [h]
  · rfl

@[simp] theorem finish_receiver (r : Option Remainder) (s : State) (q : Port) :
    ((finish r s).port q).receiver = (s.port q).receiver := by
  unfold finish
  split
  · rfl
  · split
    · rfl
    · simp [refreshPort_port]
    · unfold storeDemand; dsimp only; split
      · exact markIfClamped_receiver _ _ _ _
      · exact markIfClamped_receiver _ _ _ _
    · exact markIfClamped_receiver _ _ _ _
    · simp [State.port]
    · simp [State.port]
@[simp] theorem finish_reply (r : Option Remainder) (s : State) (q : Port) :
    ((finish r s).port q).reply = (s.port q).reply := by
  unfold finish
  split
  · rfl
  · split
    · rfl
    · simp [refreshPort_port]
    · unfold storeDemand; dsimp only; split
      · exact markIfClamped_reply _ _ _ _
      · exact markIfClamped_reply _ _ _ _
    · exact markIfClamped_reply _ _ _ _
    · simp [State.port]
    · simp [State.port]

@[simp] theorem arbitrated_receiver (s : State) (p : Port) :
    (arbitrated s p).receiver = (s.port p).receiver := by
  unfold arbitrated; dsimp only; split <;> rfl
@[simp] theorem arbitrated_reply (s : State) (p : Port) :
    (arbitrated s p).reply = (s.port p).reply := by
  unfold arbitrated; dsimp only; split <;> rfl

@[simp] theorem opened_receiver (s : State) (q : Port) :
    ((opened s).port q).receiver = (s.port q).receiver := by
  have h : ∀ x i, ((State.withInstant x i).port q) = x.port q := fun _ _ => rfl
  unfold opened endInstant settleDeadlines dropTiming
  split <;> simp [startTransmitters_port, h]
@[simp] theorem opened_reply (s : State) (q : Port) :
    ((opened s).port q).reply = (s.port q).reply := by
  have h : ∀ x i, ((State.withInstant x i).port q) = x.port q := fun _ _ => rfl
  unfold opened endInstant settleDeadlines dropTiming
  split <;> simp [startTransmitters_port, h]

/-- A frame can arrive on the block that a command finds exactly when it can on the block as it stands. -/
@[simp] theorem canArrive_opened (s : State) (p : Port) (c : Instr) :
    canArrive (opened s) p c = canArrive s p c := by
  simp [canArrive]

theorem permitted_congr {s t : State} (h : t.params = s.params) (p : Port) (k : Kind) :
    permitted t p k = permitted s p k := by
  cases k <;> simp [permitted, State.param, h]

@[simp] theorem permitted_opened (s : State) (p : Port) (k : Kind) :
    permitted (opened s) p k = permitted s p k := permitted_congr (by simp) p k

@[simp] theorem finish_none (s : State) : finish none s = s := by simp [finish]

/-- What an operation that leaves the timings alone leaves of them. -/
theorem finish_timing (r : Option Remainder) (s : State) :
    (finish r s).instant.timing = s.instant.timing := by
  unfold finish
  split
  · rfl
  · split <;> simp [countDeadlines]
    split <;> rfl

theorem finish_remainder (r : Option Remainder) (s : State) :
    (finish r s).instant.remainder = s.instant.remainder := by
  unfold finish
  split
  · rfl
  · split <;> simp [countDeadlines]
    split <;> rfl

theorem opened_timing (s : State) : (opened s).instant.timing = s.instant.timing.tail := by
  unfold opened endInstant dropTiming
  split <;> simp [finish_timing]

theorem settleDeadline_none {p : Port} {s : State} (h : deadlineDue s p = false) :
    settleDeadline p s = s := by
  simp [settleDeadline, h]

theorem settleDeadlines_none {s : State} (h : ∀ p, deadlineDue s p = false) :
    settleDeadlines s = s := by
  simp [settleDeadlines, settleDeadline_none, h]

/-- Where nothing is left of an earlier instant, a command finds the block as it stands, its own timing
taken. -/
theorem opened_settled {s : State} (h : Settled s) :
    opened s = s.withInstant { s.instant with timing := s.instant.timing.tail } := by
  obtain ⟨h1, h2, h3, h4⟩ := h
  have hd : dropTiming s = s.withInstant { s.instant with timing := s.instant.timing.tail } := by
    unfold dropTiming; rw [← h1]
  have hs : settleDeadlines (dropTiming s) = dropTiming s := 
    settleDeadlines_none h3
  have hq : startTransmitters (dropTiming s) = dropTiming s :=
    startTransmitters_quiet (Quiet.of_same h4 (by simp) (by simp))
  unfold opened endInstant
  rw [h1, finish_none, hs, hq, hd]
  split
  · rfl
  · show s.withInstant ⟨_, _, false⟩ = s.withInstant ⟨_, _, s.instant.counted⟩
    rw [h2]; rfl

/-- Taking the expiry of a port leaves it not due, and no other port's deadline is touched. -/
theorem settleDeadline_due (p q : Port) (s : State) :
    deadlineDue (settleDeadline p s) q = (deadlineDue s q && q != p) := by
  have hp : deadlineDue (passDeadline p false s) q = (deadlineDue s q && q != p) := by
    unfold deadlineDue passDeadline
    rw [staleEvent_supervisor]
    by_cases e : q = p <;> simp [setDeadline, e]
  unfold settleDeadline
  split
  · exact hp
  · next h =>
    by_cases e : q = p
    · subst e; simpa using h
    · simp [e]

/-- No deadline is due once those that were have expired. -/
theorem settleDeadlines_due (s : State) (q : Port) : deadlineDue (settleDeadlines s) q = false := by
  simp only [settleDeadlines, settleDeadline_due]
  cases q <;> simp

/-- At the end of an instant nothing is left of it. -/
theorem endInstant_settled (r : Option Remainder) {s : State} (h : s.instant.remainder = none) :
    Settled (endInstant r s) := by
  have hr : (finish r s).instant.remainder = s.instant.remainder := finish_remainder r s
  refine ⟨?_, rfl, fun p => ?_, ?_⟩
  · simp [endInstant, hr, h]
  · have := settleDeadlines_due (finish r s) p
    simpa [endInstant, deadlineDue] using this
  · exact Quiet.of_same (startTransmitters_isQuiet _) rfl rfl

/-- A command that no other joins leaves nothing of its instant. -/
theorem closed_settled {s u : State} (hu : joinsInstant u = false) : Settled (closed s u) := by
  unfold closed endUnlessJoined
  have : joinsInstant (finish (owed s) u) = false := by
    simpa [joinsInstant, timingOf, finish_timing] using hu
  rw [this]
  exact endInstant_settled _ rfl

/-- After a command of its own instant, with no command to join it, that leaves no change and no deadline
due, the instant's transmissions begin. -/
theorem closed_alone {s u : State} (h : joinsInstant s = false) (hu : joinsInstant u = false)
    (hr : u.instant.remainder = none) (hc : u.instant.counted = false)
    (hd : ∀ p, deadlineDue u p = false) : closed s u = startTransmitters u := by
  have e : dropRemainder u = u := by
    unfold dropRemainder; rw [← hr]; rfl
  simp only [closed, owed, endUnlessJoined, h, hu, finish_none, Bool.false_eq_true, if_false, endInstant,
    hr, e, settleDeadlines_none hd]
  show (startTransmitters u).withInstant _ = _
  have : { (startTransmitters u).instant with counted := false } = (startTransmitters u).instant := by
    rw [startTransmitters_instant, ← hc]
  rw [this]; rfl

end Sys2Proof.Machine
end

