-- ==== Sys2Proof/Laws/Faults.lean ====
section
/-! SUPPORT. What the fault transitions (spec 09) and the events that cause them do to the fault records,
the FAULT line and the Program Queue, said once. -/
namespace Sys2Proof.Machine

/-- The FAULT line stands at the level its inputs give (R149), as the machine computes it. -/
def LineSettled (s : State) : Prop := s.lines.fault = faultLineLevel s.params s.faults

theorem enterFault_get (f g : FaultId) (s : State) :
    (enterFault f s).faults.get g =
      if g = f then { s.faults.get f with state := inForceState f } else s.faults.get g := by
  unfold enterFault
  simp only []
  split <;> simp [setFault]

theorem enterFault_queue (f : FaultId) (s : State) :
    (enterFault f s).queue = if entryAborts f then ProgramQueue.empty else s.queue := by
  unfold enterFault
  cases entryAborts f <;> simp [abortQueue]

theorem enterFault_settled (f : FaultId) (s : State) : LineSettled (enterFault f s) := rfl

theorem clearFault_get (f g : FaultId) (s : State) :
    (clearFault f s).faults.get g =
      if g = f then { s.faults.get f with state := .clear, count := 0 } else s.faults.get g := by
  simp [clearFault, setFault]

theorem clearFault_settled (f : FaultId) (s : State) : LineSettled (clearFault f s) := rfl

/-- A stale event leaves a fault in force alone and enters any other (R140). -/
theorem staleEvent_cases (p : Port) (s : State) :
    ((s.faults.get (linkFault p)).state.inForce = true ∧ staleEvent p s = s) ∨
      ((s.faults.get (linkFault p)).state.inForce = false ∧
        staleEvent p s = enterFault (linkFault p) s) := by
  unfold staleEvent
  cases (s.faults.get (linkFault p)).state.inForce <;> simp

/-- A fresh event clears an ACTIVE fault and leaves any other alone (R140). -/
theorem freshEvent_cases (p : Port) (s : State) :
    ((s.faults.get (linkFault p)).state = .active ∧ freshEvent p s = clearFault (linkFault p) s) ∨
      ((s.faults.get (linkFault p)).state ≠ .active ∧ freshEvent p s = s) := by
  unfold freshEvent
  by_cases h : (s.faults.get (linkFault p)).state = .active
  · exact .inl ⟨h, by rw [if_pos h]⟩
  · exact .inr ⟨h, by rw [if_neg h]⟩

/-- A refresh: nothing while disarmed; a FRESH port's deadline; a STALE port's return (R91, R92). -/
theorem refreshPort_cases (p : Port) (s : State) :
    (s.supervisor.armed = false ∧ refreshPort p s = s) ∨
      (s.supervisor.armed = true ∧ (s.supervisor.deadlines.get p).freshness = .fresh ∧
        refreshPort p s = setDeadline p (restartedDeadline s p) s) ∨
      (s.supervisor.armed = true ∧ (s.supervisor.deadlines.get p).freshness = .stale ∧
        refreshPort p s = freshEvent p
          (setDeadline p
            { s.supervisor.deadlines.get p with freshness := .fresh, remaining := window s p } s)) := by
  unfold refreshPort
  cases s.supervisor.armed <;> cases (s.supervisor.deadlines.get p).freshness <;> simp

theorem qualify_get (f g : FaultId) (n : Nat) (s : State) :
    (qualify f n s).faults.get g =
      if g = f then ⟨if qualification s f ≤ n then inForceState f else .pending, n, true⟩
      else s.faults.get g := by
  unfold qualify
  simp only []
  split
  · next h => rw [enterFault_get]; by_cases hg : g = f <;> simp [hg, setFault]
  · next h => by_cases hg : g = f <;> simp [hg, setFault]

/-- An observation changes its own fault's record, by the table of R138. -/
theorem observe_get (f g : FaultId) (b : Bool) (s : State) :
    (observe f b s).faults.get g =
      if g = f then observedRecord (inForceState f) (qualification s f) b (s.faults.get f)
      else s.faults.get g := by
  unfold observe observedRecord
  cases hs : (s.faults.get f).state <;> cases b <;> simp only [hs, qualify_get]
  all_goals by_cases hg : g = f <;> simp [hg, setFault]

theorem observe_queue {f : FaultId} (hf : entryAborts f = false) (b : Bool) (s : State) :
    (observe f b s).queue = s.queue := by
  have hq : ∀ n, (qualify f n s).queue = s.queue := by
    intro n
    unfold qualify
    simp only []
    split
    · rw [enterFault_queue, hf]; rfl
    · rfl
  unfold observe
  cases hs : (s.faults.get f).state <;> cases b <;> simp only [hs]
  all_goals first | rfl | exact hq _

theorem qualification_observe (f : FaultId) (b : Bool) (s : State) :
    qualification (observe f b s) = qualification s := by
  funext g
  cases g <;> simp [qualification, State.param]

/-- The four observations of a completion, fault by fault (R16, R17). -/
theorem handObservations_get (x : Inputs) (s : State) (g : FaultId) :
    (handObservations x s).faults.get g =
      match g with
      | .stallF => observedRecord .latched (s.param Param.stallWindow)
          (stallPresent x s.engine.record.sent .front) (s.faults.get .stallF)
      | .stallR => observedRecord .latched (s.param Param.stallWindow)
          (stallPresent x s.engine.record.sent .rear) (s.faults.get .stallR)
      | .slipF => observedRecord .active (s.param Param.slipQual)
          (slipPresent x s s.engine.record.corr .front) (s.faults.get .slipF)
      | .slipR => observedRecord .active (s.param Param.slipQual)
          (slipPresent x s s.engine.record.corr .rear) (s.faults.get .slipR)
      | .linkV => s.faults.get .linkV
      | .linkF => s.faults.get .linkF
      | .linkR => s.faults.get .linkR
      | .linkS => s.faults.get .linkS := by
  unfold handObservations
  simp only [observe_get, qualification_observe]
  cases g <;> simp [inForceState, qualification]

theorem handObservations_queue (x : Inputs) (s : State) :
    (handObservations x s).queue = s.queue := by
  unfold handObservations
  simp only []
  rw [observe_queue rfl, observe_queue rfl, observe_queue rfl, observe_queue rfl]

/-- A completion moves the Program Queue by its notice alone (R18). -/
theorem complete_queue (x : Inputs) (s : State) :
    (complete x s).queue = (handNotice x (computeSplit x) s).queue := by
  have h : ∀ t u : State, t.queue = u.queue →
      (handNotice x (computeSplit x) t).queue = (handNotice x (computeSplit x) u).queue := by
    intro t u htu
    unfold handNotice
    split
    · simp only [State.withQueue_queue, htu]
    · exact htu
  unfold complete cadence
  simp only []
  split
  · rw [triggerStatusAll_queue]
    exact h _ _ (handObservations_queue _ _)
  · exact h _ _ (handObservations_queue _ _)

/-- A completion moves the faults by its observations alone. -/
theorem complete_faults (x : Inputs) (s : State) :
    (complete x s).faults = (handObservations x (publish (computeSplit x) s)).faults := by
  have h : (complete x s).faults =
      (handObservations x (placeCommands (computeSplit x).available
        (publish (computeSplit x) s))).faults := by
    unfold complete
    simp only [cadence_faults, handNotice_faults]
  rw [h]
  apply PerFault.ext_get
  intro g
  rw [handObservations_get, handObservations_get]
  cases g <;> simp [slipPresent, observedCorrMax, State.param]

theorem settled_setFault_notInForce {f : FaultId} {r : FaultRecord} {s : State} (h : LineSettled s)
    (h0 : (s.faults.get f).state.inForce = r.state.inForce) : LineSettled (setFault f r s) := by
  unfold LineSettled at *
  simp only [setFault, State.withFaults_lines, State.withFaults_params, State.withFaults_faults, h]
  unfold faultLineLevel
  congr 1
  funext g
  by_cases hg : g = f
  · subst hg; simp [h0]
  · simp [hg]

/-- An observation keeps the FAULT line at its level: it re-evaluates the line whenever a fault enters or
leaves force (R149). -/
theorem observe_settled (f : FaultId) (b : Bool) {s : State} (h : LineSettled s) :
    LineSettled (observe f b s) := by
  unfold observe qualify
  cases hs : (s.faults.get f).state <;> cases b <;> simp only [hs]
  · exact settled_setFault_notInForce h (by rw [hs])
  · split
    · exact enterFault_settled _ _
    · exact settled_setFault_notInForce h (by rw [hs]; try rfl)
  · exact settled_setFault_notInForce h (by rw [hs]; try rfl)
  · split
    · exact enterFault_settled _ _
    · exact settled_setFault_notInForce h (by rw [hs]; try rfl)
  · rfl
  · exact settled_setFault_notInForce h (by rw [hs])
  · exact settled_setFault_notInForce h (by rw [hs])
  · exact settled_setFault_notInForce h (by rw [hs])

end Sys2Proof.Machine
end

