-- ==== Sys2Proof/Laws/PerInstr.lean ====
section
/-! SUPPORT. The family WellFormed of per-command statements: which terms name a command. -/
namespace Sys2Proof.Laws.WellFormed

/-- A term names a command of the part unless it is an UNKNOWN_KIND whose kind byte is one of the sixteen
received codes (spec 11, R168, R169). -/
def Statement (i : Instr) : Prop :=
  i.wellFormed = true ↔ ∀ p tag kind, i = .unknownKind p tag kind → kind ∉ receivedKinds

theorem periodExpiry : Statement .periodExpiry := by
  simp [Statement, Instr.wellFormed]

theorem completion : Statement .completion := by
  simp [Statement, Instr.wellFormed]

theorem lifetimeExpiry : Statement .lifetimeExpiry := by
  simp [Statement, Instr.wellFormed]

theorem deadlineExpiry (p : Port) : Statement (.deadlineExpiry p) := by
  simp [Statement, Instr.wellFormed]

theorem demand (p : Port) (tag : Byte) (torque : Half) (propulsion : Byte) :
    Statement (.demand p tag torque propulsion) := by
  simp [Statement, Instr.wellFormed]

theorem envelope (p : Port) (tag : Byte) (driveMax regenMax speed : Half) (ready : Byte) :
    Statement (.envelope p tag driveMax regenMax speed ready) := by
  simp [Statement, Instr.wellFormed]

theorem reference (p : Port) (tag : Byte) (speed : Half) (valid : Byte) :
    Statement (.reference p tag speed valid) := by
  simp [Statement, Instr.wellFormed]

theorem setParam (p : Port) (tag : Byte) (id : Byte) (value : Half) :
    Statement (.setParam p tag id value) := by
  simp [Statement, Instr.wellFormed]

theorem readParam (p : Port) (tag : Byte) (id : Byte) : Statement (.readParam p tag id) := by
  simp [Statement, Instr.wellFormed]

theorem writeCells (p : Port) (tag : Byte) (map start step count : Byte) (v0 v1 v2 v3 : Half) :
    Statement (.writeCells p tag map start step count v0 v1 v2 v3) := by
  simp [Statement, Instr.wellFormed]

theorem selectMaps (p : Port) (tag : Byte) (drive regen : Byte) :
    Statement (.selectMaps p tag drive regen) := by
  simp [Statement, Instr.wellFormed]

theorem start (p : Port) (tag : Byte) : Statement (.start p tag) := by
  simp [Statement, Instr.wellFormed]

theorem stop (p : Port) (tag : Byte) : Statement (.stop p tag) := by
  simp [Statement, Instr.wellFormed]

theorem configure (p : Port) (tag : Byte) : Statement (.configure p tag) := by
  simp [Statement, Instr.wellFormed]

theorem clearFault (p : Port) (tag : Byte) (id : Byte) : Statement (.clearFault p tag id) := by
  simp [Statement, Instr.wellFormed]

theorem queueSegment (p : Port) (tag : Byte) (id shape endMark : Byte) (target duration : Half) :
    Statement (.queueSegment p tag id shape endMark target duration) := by
  simp [Statement, Instr.wellFormed]

theorem abortProgram (p : Port) (tag : Byte) : Statement (.abortProgram p tag) := by
  simp [Statement, Instr.wellFormed]

theorem intervene (p : Port) (tag : Byte) (id kind axle : Byte) (value lifetime : Half) :
    Statement (.intervene p tag id kind axle value lifetime) := by
  simp [Statement, Instr.wellFormed]

theorem release (p : Port) (tag : Byte) (id : Byte) : Statement (.release p tag id) := by
  simp [Statement, Instr.wellFormed]

theorem poll (p : Port) (tag : Byte) : Statement (.poll p tag) := by
  simp [Statement, Instr.wellFormed]

theorem unknownKind (p : Port) (tag : Byte) (kind : Byte) :
    Statement (.unknownKind p tag kind) := by
  simp [Statement, Instr.wellFormed]

theorem receiveIdle (p : Port) : Statement (.receiveIdle p) := by
  simp [Statement, Instr.wellFormed]

theorem frameGap (p : Port) : Statement (.frameGap p) := by
  simp [Statement, Instr.wellFormed]

theorem framingError (p : Port) : Statement (.framingError p) := by
  simp [Statement, Instr.wellFormed]

theorem byteInHunt (p : Port) : Statement (.byteInHunt p) := by
  simp [Statement, Instr.wellFormed]

theorem crcError (p : Port) : Statement (.crcError p) := by
  simp [Statement, Instr.wellFormed]

theorem transmitCompletion (p : Port) : Statement (.transmitCompletion p) := by
  simp [Statement, Instr.wellFormed]

theorem shutoffAssert : Statement .shutoffAssert := by
  simp [Statement, Instr.wellFormed]

theorem shutoffRelease : Statement .shutoffRelease := by
  simp [Statement, Instr.wellFormed]

theorem resetAssert : Statement .resetAssert := by
  simp [Statement, Instr.wellFormed]

theorem resetRelease : Statement .resetRelease := by
  simp [Statement, Instr.wellFormed]

theorem byteArrival (p : Port) (byte : Byte) : Statement (.byteArrival p byte) := by
  simp [Statement, Instr.wellFormed]

end Sys2Proof.Laws.WellFormed
end

