-- ==== Sys2Proof/Laws/Steps.lean ====
section
/-! SUPPORT. Every step is a chain of the shared operations: a property of states that each operation
keeps, from the states it is applied to, is kept by every step. -/
namespace Sys2Proof.Machine

/-- The property is kept by each operation that a command is made of, but for the timed operations, the
RESET line and the queue of commands. -/
structure KeptByEvents (P : State → Prop) : Prop where
  hunt : ∀ p s, P s → P (setReceiver p .hunt s)
  ready : ∀ p s, P s → P (setReceiver p .ready s)
  firstByte : ∀ p b s, P s → P (setReceiver p (.receiving [b]) s)
  nextByte : ∀ p held b s, (s.port p).receiver = .receiving held → held.length + 1 < 20 → P s →
    P (setReceiver p (.receiving (held ++ [b])) s)
  refresh : ∀ p s, P s → P (refreshPort p s)
  choose : ∀ p s, P s → P (startTransmitter p s)
  leave : ∀ r s, r ≠ .computationStart → r ≠ .countdown → P s → P (leave r s)
  forget : ∀ s, P s → P (dropRemainder s)
  uncount : ∀ s, P s → P (s.withInstant { s.instant with counted := false })
  place : ∀ p r s, (s.port p).reply = none → P s → P (placeReply p r s)
  linkError : ∀ p s, P s → P (markLinkError p s)
  overrun : ∀ p s, P s → P (markOverrun p s)
  demand : ∀ p t b s, P s → P (storeDemand p t b s)
  envelope : ∀ p d r v b s, P s → P (storeEnvelope p d r v b s)
  reference : ∀ p v b s, P s → P (storeReference p v b s)
  poll : ∀ p s, P s → P (triggerStatus p s)
  param : ∀ (i : Fin 40) v s, s.mode.state = .config →
    (Param.isWindow i.val && s.mode.windowLock) = false → paramAdmits i.val v = true → P s →
    P (writeParam i v s)
  cells : ∀ m st sp n vs w s, cellWrite m st sp n vs = some w → mapInUse s w.map = false → P s →
    P (writeMap w s)
  select : ∀ d r s, P s → P (s.withMaps { s.maps with drive := d, regen := r })
  run : ∀ s, s.mode.state ≠ .run → s.lines.shutoff = false → consistent s.params = true → P s →
    P (enterRun s)
  halt : ∀ s, s.mode.state = .run → P s → P (enterHalt s)
  config : ∀ s, s.mode.state = .halt → P s → P (enterConfig s)
  release : ∀ f s, P s → P (releaseFault f s)
  segment : ∀ i sh e t d g s, segmentOf i sh e t d = some g → mismatches s.queue.segments g = false →
    s.queue.segments.length < 16 → (incompleteTail s.queue.segments).length < 12 → P s →
    P (s.withQueue { s.queue with segments := s.queue.segments ++ [g] })
  tooLong : ∀ s, P s → P (s.withQueue
    (if withoutIncomplete s.queue.segments = [] then ProgramQueue.empty
      else { s.queue with segments := withoutIncomplete s.queue.segments }))
  abort : ∀ s, P s → P (abortQueue s)
  put : ∀ i k a v l e s, entryOf i k a v l = some e →
    (hasEntry s.table e.id || decide (s.table.length < 8)) = true → P s →
    P (s.withTable (putEntry e s.table))
  drop : ∀ n s, P s → P (s.withTable (dropEntry n s.table))
  clear : ∀ s, P s → P (s.withTable [])
  age : ∀ s, P s → P (s.withTable (s.table.filterMap agedEntry))
  pass : ∀ p s, s.supervisor.armed = true → (s.supervisor.deadlines.get p).freshness = .fresh →
    ((s.supervisor.deadlines.get p).remaining = 0 ∧ P s → P (passDeadline p false s)) ∧
    ((s.supervisor.deadlines.get p).remaining = 1 ∧ (s.supervisor.deadlines.get p).countedAhead = false ∧
      P s → P (passDeadline p true s))
  ended : ∀ p s, P s → P (endTransmission p s)
  shutoff : ∀ b s, P s → P (setShutoff b s)
  shutoffRun : ∀ s, s.mode.state = .run → P s → P (enterHalt (setShutoff true s))

/-- The property is also kept by the timed operations: the completion, the period expiry's three, and what
it leaves. -/
structure KeptInTime (P : State → Prop) : Prop extends KeptByEvents P where
  complete : ∀ x s, s.engine.inFlight = some x → P s → P (complete x s)
  interval : ∀ s, P s → P (beginInterval s)
  compute : ∀ s, P s → P (startComputation s)
  count : ∀ s, P s → P (countDeadlines s)
  leaveTimed : ∀ r s, P s → P (Machine.leave r s)

/-- The property is kept by every operation, RESET among them, and by taking a command from the queue. -/
structure Kept (P : State → Prop) : Prop extends KeptInTime P where
  reset : ∀ s, P s → P (resetAsserted s.lines.shutoff s.instant.timing s.pending)
  started : ∀ s, s.lines.reset = true → P s →
    P ((s.withLines { s.lines with reset := false }).withEngine
      { s.engine with interval := some (paramDefaults.read Param.periodUs) })
  untimed : ∀ s, P s → P (dropTiming s)
  queued : ∀ rest s, P s → P (s.withPending rest)

variable {P : State → Prop}

theorem KeptByEvents.begin (K : KeptByEvents P) (s : State) (h : P s) : P (startTransmitters s) :=
  K.choose _ _ (K.choose _ _ (K.choose _ _ (K.choose _ _ h)))

theorem KeptByEvents.arrives (K : KeptByEvents P) {c : Instr} {p : Port} {take : State → State}
    (ht : ∀ s, P s → P (take s)) {s : State} (h : P s) : P (frameArrives c p take s) := by
  rw [frameArrives_eq]
  split
  · exact ht _ (K.hunt p s h)
  · exact h

theorem KeptByEvents.answer (K : KeptByEvents P) {p : Port} {tag kind : Byte} {decide : State → Answer}
    (hd : ∀ s, P s → P (decide s).state)
    (hr : ∀ s, ((decide s).state.port p).reply = (s.port p).reply) {s : State} (h : P s) :
    P (answerFrame p tag kind decide s) := by
  unfold answerFrame
  cases ho : replyOccupied s p
  · refine K.place _ _ _ ?_ (hd s h)
    rw [hr]
    simpa [replyOccupied] using ho
  · exact K.overrun p s h

theorem KeptByEvents.request (K : KeptByEvents P) {p : Port} {tag : Byte} {k : Kind} {owner : State → Answer}
    (hd : ∀ s, P s → P (owner s).state)
    (hr : ∀ s, ((owner s).state.port p).reply = (s.port p).reply) {s : State} (h : P s) :
    P (takeRequest p tag k owner s) := by
  unfold takeRequest
  refine K.answer ?_ ?_ (K.refresh p s h)
  · intro x hx
    split
    · exact hd x hx
    · exact hx
  · intro x
    split
    · exact hr x
    · rfl

theorem KeptByEvents.streaming (K : KeptByEvents P) {p : Port} {tag : Byte} {k : Kind} {record : State → State}
    (hd : ∀ s, P s → P (record s)) {s : State} (h : P s) : P (takeStreaming p tag k record s) := by
  unfold takeStreaming
  simp only []
  split
  · exact hd _ (K.refresh p s h)
  · exact K.answer (fun _ hx => hx) (fun _ => rfl) (K.refresh p s h)

theorem KeptByEvents.recorded (K : KeptByEvents P) {p : Port} {tag : Byte} {k : Kind} {o : Order}
    {r : Remainder} {record : State → State} (h1 : r ≠ .computationStart) (h2 : r ≠ .countdown)
    (hd : ∀ s, P s → P (record s)) {s : State} (h : P s) : P (takeRecord p tag k o r record s) := by
  unfold takeRecord supervisionAndRecord
  split
  · split
    · exact hd _ (K.refresh p s h)
    · exact K.leave _ _ h1 h2 (K.refresh p s h)
    · exact K.leave _ _ nofun nofun (hd _ h)
  · exact K.answer (fun _ hx => hx) (fun _ => rfl) (K.refresh p s h)

theorem KeptByEvents.releases (K : KeptByEvents P) (l : List FaultId) : ∀ s, P s →
    P (l.foldl (fun t f => releaseFault f t) s) := by
  induction l with
  | nil => intro s h; exact h
  | cons f l ih => intro s h; exact ih _ (K.release f s h)

theorem releaseFault_port (f : FaultId) (s : State) (p : Port) :
    (releaseFault f s).port p = s.port p := by
  unfold releaseFault
  split <;> simp [State.port]

theorem releases_port (l : List FaultId) (p : Port) : ∀ s,
    (l.foldl (fun t f => releaseFault f t) s).port p = s.port p := by
  induction l with
  | nil => intro s; rfl
  | cons f l ih => intro s; rw [List.foldl_cons, ih, releaseFault_port]

/-! What each owning block's answer leaves. -/

theorem KeptByEvents.setParam (K : KeptByEvents P) (id : Byte) (v : Half) (s : State) (h : P s) :
    P (setParamAnswer id v s).state := by
  unfold setParamAnswer
  split
  · next hm =>
    split
    · exact h
    · next i hi =>
      split
      · exact h
      · next hl =>
        split
        · next ha => exact K.param _ _ _ hm (by simpa using hl) ha h
        · exact h
  · exact h

theorem setParam_reply (id : Byte) (v : Half) (p : Port) (s : State) :
    ((setParamAnswer id v s).state.port p).reply = (s.port p).reply := by
  have : ∀ i v, ((writeParam i v s).port p) = s.port p := by
    intro i v
    unfold writeParam lowerCorrections
    simp only []
    split
    · rfl
    · split <;> rfl
  unfold setParamAnswer
  repeat' split
  all_goals simp only [refuse, taken, this]

theorem KeptByEvents.readParam (id : Byte) (s : State) (h : P s) :
    P (readParamAnswer id s).state := by
  unfold readParamAnswer
  split <;> exact h

theorem readParam_reply (id : Byte) (p : Port) (s : State) :
    ((readParamAnswer id s).state.port p).reply = (s.port p).reply := by
  unfold readParamAnswer
  split <;> rfl

theorem KeptByEvents.writeCells (K : KeptByEvents P) (m st sp n : Byte) (vs : List Half) (s : State) (h : P s) :
    P (writeCellsAnswer m st sp n vs s).state := by
  unfold writeCellsAnswer
  split
  · exact h
  · next w hw =>
    split
    · exact h
    · next hu => exact K.cells _ _ _ _ _ _ _ hw (by simpa using hu) h

theorem writeCells_reply (m st sp n : Byte) (vs : List Half) (p : Port) (s : State) :
    ((writeCellsAnswer m st sp n vs s).state.port p).reply = (s.port p).reply := by
  unfold writeCellsAnswer
  repeat' split
  all_goals rfl

theorem KeptByEvents.selectMaps (K : KeptByEvents P) (d r : Byte) (s : State) (h : P s) :
    P (selectMapsAnswer d r s).state := by
  unfold selectMapsAnswer
  split
  · exact K.select _ _ _ h
  · exact h

theorem selectMaps_reply (d r : Byte) (p : Port) (s : State) :
    ((selectMapsAnswer d r s).state.port p).reply = (s.port p).reply := by
  unfold selectMapsAnswer
  split <;> rfl

theorem KeptByEvents.start (K : KeptByEvents P) (s : State) (h : P s) :
    P (startAnswer s).state := by
  unfold startAnswer
  split
  · exact h
  · next hm =>
    split
    · exact h
    · next hs =>
      split
      · next hc => exact K.run s hm (by simpa using hs) hc h
      · exact h

theorem start_reply (p : Port) (s : State) :
    ((startAnswer s).state.port p).reply = (s.port p).reply := by
  unfold startAnswer
  repeat' split
  all_goals simp [refuse, taken, enterRun, armSupervisor, resetCorrections, triggerStatusAll, State.port]

theorem KeptByEvents.stop (K : KeptByEvents P) (s : State) (h : P s) : P (stopAnswer s).state := by
  unfold stopAnswer
  split
  · next hm => exact K.halt s hm h
  · exact h
  · exact h

theorem stop_reply (p : Port) (s : State) :
    ((stopAnswer s).state.port p).reply = (s.port p).reply := by
  unfold stopAnswer
  split <;> simp [taken, refuse, enterHalt, abortQueue, setMode, triggerStatusAll, State.port]

theorem KeptByEvents.configure (K : KeptByEvents P) (s : State) (h : P s) :
    P (configureAnswer s).state := by
  unfold configureAnswer
  split
  · next hm => exact K.config s hm h
  · exact h
  · exact h

theorem configure_reply (p : Port) (s : State) :
    ((configureAnswer s).state.port p).reply = (s.port p).reply := by
  unfold configureAnswer
  split <;> simp [taken, refuse, enterConfig, clearLinkFaults, setMode, triggerStatusAll, State.port]

theorem KeptByEvents.clearFaults (K : KeptByEvents P) (id : Byte) (s : State) (h : P s) :
    P (clearFaultAnswer id s).state := by
  unfold clearFaultAnswer
  by_cases hid : id = 255#8
  · rw [if_pos hid]
    have := K.releases allFaults s h
    simpa only [] using this
  · rw [if_neg hid]
    cases faultOfId id.toNat with
    | none => exact h
    | some f =>
      simp only []
      split
      · exact h
      · exact K.release f s h

theorem clearFault_reply (id : Byte) (p : Port) (s : State) :
    ((clearFaultAnswer id s).state.port p).reply = (s.port p).reply := by
  unfold clearFaultAnswer
  by_cases hid : id = 255#8
  · rw [if_pos hid]
    simp only [releases_port]
  · rw [if_neg hid]
    cases faultOfId id.toNat with
    | none => rfl
    | some f =>
      simp only []
      split
      · rfl
      · simp only [taken, releaseFault_port]

theorem KeptByEvents.queueSegment (K : KeptByEvents P) (i sh e : Byte) (t d : Half) (s : State) (h : P s) :
    P (queueSegmentAnswer i sh e t d s).state := by
  unfold queueSegmentAnswer
  split
  · exact h
  · next g hg =>
    simp only []
    split
    · exact h
    · next hm =>
      split
      · exact h
      · next hf =>
        split
        · exact K.tooLong s h
        · next hp =>
          exact K.segment _ _ _ _ _ _ _ hg (by simpa using hm)
            (by simpa [Config.queueSize] using hf) (by simpa [Config.programSize] using hp) h

theorem queueSegment_reply (i sh e : Byte) (t d : Half) (p : Port) (s : State) :
    ((queueSegmentAnswer i sh e t d s).state.port p).reply = (s.port p).reply := by
  unfold queueSegmentAnswer
  split
  · rfl
  · simp only []
    repeat' split
    all_goals rfl

theorem KeptByEvents.intervene (K : KeptByEvents P) (i k a : Byte) (v l : Half) (s : State) (h : P s) :
    P (interveneAnswer i k a v l s).state := by
  unfold interveneAnswer
  split
  · exact h
  · next e he =>
    split
    · next hr => exact K.put _ _ _ _ _ _ _ he hr h
    · exact h

theorem intervene_reply (i k a : Byte) (v l : Half) (p : Port) (s : State) :
    ((interveneAnswer i k a v l s).state.port p).reply = (s.port p).reply := by
  unfold interveneAnswer
  repeat' split
  all_goals rfl

theorem KeptByEvents.releaseEntry (K : KeptByEvents P) (i : Byte) (s : State) (h : P s) :
    P (releaseAnswer i s).state := by
  unfold releaseAnswer
  split
  · exact K.clear s h
  · split
    · exact K.drop _ s h
    · exact h

theorem releaseEntry_reply (i : Byte) (p : Port) (s : State) :
    ((releaseAnswer i s).state.port p).reply = (s.port p).reply := by
  unfold releaseAnswer
  repeat' split
  all_goals rfl

/-! Every command. -/

/-- The taking of any command a frame's bytes can spell. -/
theorem KeptByEvents.frame (K : KeptByEvents P) (c : Instr) (o : Order) (s : State) (h : P s) :
    P (takeFrame c o s) := by
  cases c with
  | demand p tag t b =>
    exact K.recorded (r := .demandRecord t b) nofun nofun (fun _ hx => K.demand p t b _ hx) h
  | envelope p tag d r v b => exact K.streaming (fun _ hx => K.envelope p d r v b _ hx) h
  | reference p tag v b =>
    exact K.recorded (r := .referenceRecord v b) nofun nofun (fun _ hx => K.reference p v b _ hx) h
  | poll p tag =>
    exact K.streaming (p := p) (tag := tag) (k := .poll) (record := triggerStatus p)
      (fun _ hx => K.poll p _ hx) h
  | setParam p tag i v => exact K.request (K.setParam i v) (setParam_reply i v p) h
  | readParam p tag i => exact K.request (fun s hs => KeptByEvents.readParam i s hs) (readParam_reply i p) h
  | writeCells p tag m st sp n v0 v1 v2 v3 =>
    exact K.request (K.writeCells m st sp n _) (writeCells_reply m st sp n _ p) h
  | selectMaps p tag d r => exact K.request (K.selectMaps d r) (selectMaps_reply d r p) h
  | start p tag => exact K.request K.start (start_reply p) h
  | stop p tag => exact K.request K.stop (stop_reply p) h
  | configure p tag => exact K.request K.configure (configure_reply p) h
  | clearFault p tag i => exact K.request (K.clearFaults i) (clearFault_reply i p) h
  | queueSegment p tag i sh e t d =>
    exact K.request (K.queueSegment i sh e t d) (queueSegment_reply i sh e t d p) h
  | abortProgram p tag => exact K.request (fun s hs => K.abort s hs) (fun _ => rfl) h
  | intervene p tag i k a v l => exact K.request (K.intervene i k a v l) (intervene_reply i k a v l p) h
  | release p tag i => exact K.request (K.releaseEntry i) (releaseEntry_reply i p) h
  | unknownKind p tag k =>
    exact K.answer (decide := fun x => refuse x .unknownKind) (fun _ hx => hx) (fun _ => rfl)
      (K.refresh p s h)
  | crcError p => exact K.linkError p s h
  | _ => exact h

/-- A deadline expiry taken ahead. -/
theorem KeptByEvents.expires (K : KeptByEvents P) (p : Port) (s : State) (h : P s) :
    P (expireDeadline p s) := by
  unfold Machine.expireDeadline
  dsimp only
  split
  · next ha =>
    simp only [Bool.and_eq_true, beq_iff_eq, Bool.not_eq_true'] at ha
    exact (K.pass p s ha.1.1.1.1 ha.1.1.1.2).2 ⟨ha.1.1.2, ha.1.2, h⟩
  · exact h

theorem KeptByEvents.settle (K : KeptByEvents P) (p : Port) (s : State) (h : P s) :
    P (settleDeadline p s) := by
  unfold settleDeadline
  split
  · next hd =>
    simp only [deadlineDue, Bool.and_eq_true, beq_iff_eq] at hd
    exact (K.pass p s hd.1.1 hd.1.2).1 ⟨hd.2, h⟩
  · exact h

theorem KeptByEvents.settled (K : KeptByEvents P) (s : State) (h : P s) : P (settleDeadlines s) :=
  K.settle _ _ (K.settle _ _ (K.settle _ _ (K.settle _ _ h)))

/-- A change left by a command, but for the two timed ones. -/
theorem KeptByEvents.finishes (K : KeptByEvents P) {r : Option Remainder}
    (h1 : r ≠ some .computationStart) (h2 : r ≠ some .countdown) (s : State) (h : P s) :
    P (finish r s) := by
  unfold finish
  split
  · exact h
  · split
    · exact h
    · exact K.refresh _ _ h
    · exact K.demand _ _ _ _ h
    · exact K.reference _ _ _ _ h
    · exact absurd rfl h1
    · exact absurd rfl h2

/-- What comes before a command and after it, given that it keeps the property to take what is left. -/
theorem KeptByEvents.around (K : KeptByEvents P) {f : Order → State → State}
    (hf : ∀ o s, P s → P (f o s)) {s t : State} (hl : ∀ x, P x → P (finish s.instant.remainder x))
    (hr : ∀ u, P u → ∀ x, P x → P (finish u.instant.remainder x)) (h : P (dropTiming s))
    (ht : event f s = .next t) : P t := by
  have ended : ∀ r x, P (finish r x) → P (endInstant r x) := fun _ _ hx =>
    K.uncount _ (K.begin _ (K.settled _ hx))
  have ho : P (opened s) := by
    unfold opened
    split
    · exact K.settled _ h
    · exact ended _ _ (hl _ h)
  have hw : P (finish (owed s) (f (timingOf s).order (opened s))) := by
    unfold owed
    split
    · exact hl _ (hf _ _ ho)
    · rw [finish_none]; exact hf _ _ ho
  obtain rfl := Host.Outcome.next.inj ht
  unfold closed endUnlessJoined
  split
  · exact hw
  · exact ended _ _ (hr _ hw _ (K.forget _ hw))

/-- The change left is not one of the timed two. -/
def Untimed (s : State) : Prop :=
  s.instant.remainder ≠ some .computationStart ∧ s.instant.remainder ≠ some .countdown

theorem Untimed.congr {s t : State} (h : t.instant = s.instant) (hs : Untimed s) : Untimed t := by
  unfold Untimed; rw [h]; exact hs

/-- With such a property every event also keeps that the change left is not one of the timed two. -/
theorem KeptByEvents.untimed (K : KeptByEvents P) : KeptByEvents fun s => P s ∧ Untimed s where
  hunt p s h := ⟨K.hunt p s h.1, h.2.congr (by simp)⟩
  ready p s h := ⟨K.ready p s h.1, h.2.congr (by simp)⟩
  firstByte p b s h := ⟨K.firstByte p b s h.1, h.2.congr (by simp)⟩
  nextByte p held b s hr hl h := ⟨K.nextByte p held b s hr hl h.1, h.2.congr (by simp)⟩
  refresh p s h := ⟨K.refresh p s h.1, h.2.congr (by simp)⟩
  choose p s h := ⟨K.choose p s h.1, h.2.congr (by simp)⟩
  place p r s he h := ⟨K.place p r s he h.1, h.2.congr (by simp)⟩
  linkError p s h := ⟨K.linkError p s h.1, h.2.congr (by simp)⟩
  overrun p s h := ⟨K.overrun p s h.1, h.2.congr (by simp)⟩
  demand p t b s h := ⟨K.demand p t b s h.1, h.2.congr (by simp)⟩
  envelope p d r v b s h := ⟨K.envelope p d r v b s h.1, h.2.congr (by simp)⟩
  reference p v b s h := ⟨K.reference p v b s h.1, h.2.congr (by simp)⟩
  poll p s h := ⟨K.poll p s h.1, h.2.congr (by simp)⟩
  param i v s h1 h2 h3 h := ⟨K.param i v s h1 h2 h3 h.1, h.2.congr (by simp)⟩
  cells m st sp n vs w s h1 h2 h := ⟨K.cells m st sp n vs w s h1 h2 h.1, h.2.congr (by simp)⟩
  select d r s h := ⟨K.select d r s h.1, h.2.congr (by simp)⟩
  run s h1 h2 h3 h := ⟨K.run s h1 h2 h3 h.1, h.2.congr (by simp)⟩
  halt s h1 h := ⟨K.halt s h1 h.1, h.2.congr (by simp)⟩
  config s h1 h := ⟨K.config s h1 h.1, h.2.congr (by simp)⟩
  release f s h := ⟨K.release f s h.1, h.2.congr (by simp)⟩
  segment i sh e t d g s h1 h2 h3 h4 h := ⟨K.segment i sh e t d g s h1 h2 h3 h4 h.1, h.2.congr (by simp)⟩
  tooLong s h := ⟨K.tooLong s h.1, h.2.congr (by simp)⟩
  abort s h := ⟨K.abort s h.1, h.2.congr (by simp)⟩
  put i k a v l e s h1 h2 h := ⟨K.put i k a v l e s h1 h2 h.1, h.2.congr (by simp)⟩
  drop n s h := ⟨K.drop n s h.1, h.2.congr (by simp)⟩
  clear s h := ⟨K.clear s h.1, h.2.congr (by simp)⟩
  age s h := ⟨K.age s h.1, h.2.congr (by simp)⟩
  ended p s h := ⟨K.ended p s h.1, h.2.congr (by simp)⟩
  shutoff b s h := ⟨K.shutoff b s h.1, h.2.congr (by simp)⟩
  shutoffRun s h1 h := ⟨K.shutoffRun s h1 h.1, h.2.congr (by simp)⟩
  leave r s h1 h2 h := ⟨K.leave r s h1 h2 h.1, fun e => h1 (Option.some.inj e), fun e => h2 (Option.some.inj e)⟩
  forget s h := ⟨K.forget s h.1, nofun, nofun⟩
  uncount s h := ⟨K.uncount s h.1, h.2⟩
  pass p s ha hf :=
    ⟨fun h => ⟨(K.pass p s ha hf).1 ⟨h.1, h.2.1⟩, h.2.2.congr (by simp)⟩,
      fun h => ⟨(K.pass p s ha hf).2 ⟨h.1, h.2.1, h.2.2.1⟩, h.2.2.2.congr (by simp)⟩⟩
theorem KeptInTime.completes (K : KeptInTime P) (s : State) (h : P s) : P (completeInFlight s) := by
  unfold completeInFlight
  split
  · next x hx => exact K.complete x s hx h
  · exact h

theorem complete_inFlight (x : Inputs) (s : State) : (complete x s).engine.inFlight = none := by
  unfold Machine.complete
  simp [placeCommands, publish]

theorem completeInFlight_inFlight (s : State) : (completeInFlight s).engine.inFlight = none := by
  unfold completeInFlight
  split
  · exact complete_inFlight _ _
  · assumption

theorem KeptInTime.expiry (K : KeptInTime P) (o : Order) (s : State) (h : P s) :
    P (takePeriodExpiry o s) := by
  unfold takePeriodExpiry
  split
  · exact K.count _ (K.compute _ (K.interval _ h))
  · exact K.leaveTimed _ _ (K.compute _ (K.interval _ h))
  · exact K.leaveTimed _ _ (K.count _ (K.interval _ h))

theorem KeptInTime.finishes (K : KeptInTime P) (r : Option Remainder) (s : State) (h : P s) :
    P (finish r s) := by
  by_cases h1 : r = some .computationStart
  · subst h1
    unfold finish
    split
    · exact h
    · exact K.compute _ h
  · by_cases h2 : r = some .countdown
    · subst h2
      unfold finish
      split
      · exact h
      · exact K.count _ h
    · exact K.toKeptByEvents.finishes h1 h2 s h

theorem KeptByEvents.received (K : KeptByEvents P) (p : Port) (b : Byte) (o : Order) (s : State)
    (h : P s) : P (receiveByte p b o s) := by
  unfold receiveByte
  split
  · exact K.linkError p s h
  · exact K.firstByte p b s h
  · next held hr =>
    split
    · next hl => exact K.nextByte p held b s hr (by simpa [Config.frameBytes] using hl) h
    · exact K.frame _ _ _ (K.hunt p s h)

theorem KeptByEvents.broken (K : KeptByEvents P) (p : Port) (s : State) (h : P s) :
    P (breakFrame p s) :=
  K.linkError p _ (K.hunt p s h)

/-- While RESET is asserted nothing moves; otherwise the operation does. -/
theorem KeptByEvents.gated {f : Order → State → State} (hf : ∀ o s, P s → P (f o s)) (o : Order)
    (s : State) (h : P s) : P (if s.lines.reset = true then s else f o s) := by
  split
  · exact h
  · exact hf o s h

/-- A property that those operations keep, every command keeps but the completion, the period expiry and
the RESET line's two, given that it keeps the property to take what is left. -/
theorem KeptByEvents.ofEvent (K : KeptByEvents P) {c : Instr} (h1 : c ≠ .completion)
    (h2 : c ≠ .periodExpiry) (h3 : c ≠ .resetAssert) (h4 : c ≠ .resetRelease) {s t : State}
    (hl : ∀ x, P x → P (finish s.instant.remainder x))
    (hr : ∀ u, P u → ∀ x, P x → P (finish u.instant.remainder x)) (h : P (dropTiming s))
    (ht : exec c s = .next t) : P t := by
  have arrive : ∀ {c : Instr} {p : Port} {take : Order → State → State},
      (∀ o x, P x → P (take o x)) → event (fun o => frameArrives c p (take o)) s = .next t → P t :=
    fun hk he => K.around (fun o _ hx => K.arrives (hk o) hx) hl hr h he
  have gate : ∀ {f : Order → State → State}, (∀ o x, P x → P (f o x)) →
      whileReleased f s = .next t → P t :=
    fun hk he => K.around (KeptByEvents.gated hk) hl hr h he
  cases c with
  | completion => exact absurd rfl h1
  | periodExpiry => exact absurd rfl h2
  | resetAssert => exact absurd rfl h3
  | resetRelease => exact absurd rfl h4
  | lifetimeExpiry => exact gate (fun _ x hx => K.age x hx) ht
  | deadlineExpiry p => exact gate (fun _ x hx => K.expires p x hx) ht
  | receiveIdle p =>
    refine gate (f := fun _ x => if (x.port p).receiver = .hunt then setReceiver p .ready x else x)
      (fun _ x hx => ?_) ht
    split
    · exact K.ready p x hx
    · exact hx
  | frameGap p =>
    refine gate (f := fun _ x => match (x.port p).receiver with
      | .receiving _ => breakFrame p x
      | .hunt => x
      | .ready => x) (fun _ x hx => ?_) ht
    split
    · exact K.broken p x hx
    · exact hx
    · exact hx
  | framingError p => exact gate (fun _ x hx => K.broken p x hx) ht
  | byteInHunt p =>
    refine gate (f := fun _ x => if (x.port p).receiver = .hunt then markLinkError p x else x)
      (fun _ x hx => ?_) ht
    split
    · exact K.linkError p x hx
    · exact hx
  | crcError p => exact gate (fun _ x hx => K.broken p x hx) ht
  | transmitCompletion p =>
    refine gate (f := fun _ x =>
      if (x.port p).sending.isSome then startTransmitter p (endTransmission p x) else x)
      (fun _ x hx => ?_) ht
    split
    · exact K.choose _ _ (K.ended p x hx)
    · exact hx
  | byteArrival p b => exact gate (K.received p b) ht
  | shutoffAssert =>
    refine K.around (f := fun _ x =>
      if !x.lines.reset && x.mode.state == .run then enterHalt (setShutoff true x)
      else setShutoff true x) (fun _ x hx => ?_) hl hr h ht
    split
    · next hc =>
      simp only [Bool.and_eq_true, beq_iff_eq] at hc
      exact K.shutoffRun x hc.2 hx
    · exact K.shutoff true x hx
  | shutoffRelease => exact K.around (fun _ x hx => K.shutoff false x hx) hl hr h ht
  | unknownKind p tag k =>
    refine K.around (f := fun _ x => if (Instr.unknownKind p tag k).wellFormed then
      frameArrives (.unknownKind p tag k) p (takeUnknown p tag k) x else x) (fun o x hx => ?_) hl hr h ht
    split
    · exact K.arrives (K.frame (.unknownKind p tag k) o) hx
    · exact hx
  | demand p tag a b => exact arrive (take := takeFrame (.demand p tag a b)) (K.frame _) ht
  | envelope p tag a b v r => exact arrive (take := takeFrame (.envelope p tag a b v r)) (K.frame _) ht
  | reference p tag a b => exact arrive (take := takeFrame (.reference p tag a b)) (K.frame _) ht
  | setParam p tag a b => exact arrive (take := takeFrame (.setParam p tag a b)) (K.frame _) ht
  | readParam p tag a => exact arrive (take := takeFrame (.readParam p tag a)) (K.frame _) ht
  | writeCells p tag m st sp n v0 v1 v2 v3 => exact arrive (take := takeFrame (.writeCells p tag m st sp n v0 v1 v2 v3)) (K.frame _) ht
  | selectMaps p tag a b => exact arrive (take := takeFrame (.selectMaps p tag a b)) (K.frame _) ht
  | start p tag => exact arrive (take := takeFrame (.start p tag)) (K.frame _) ht
  | stop p tag => exact arrive (take := takeFrame (.stop p tag)) (K.frame _) ht
  | configure p tag => exact arrive (take := takeFrame (.configure p tag)) (K.frame _) ht
  | clearFault p tag a => exact arrive (take := takeFrame (.clearFault p tag a)) (K.frame _) ht
  | queueSegment p tag i sh e a d => exact arrive (take := takeFrame (.queueSegment p tag i sh e a d)) (K.frame _) ht
  | abortProgram p tag => exact arrive (take := takeFrame (.abortProgram p tag)) (K.frame _) ht
  | intervene p tag i k a v l => exact arrive (take := takeFrame (.intervene p tag i k a v l)) (K.frame _) ht
  | release p tag a => exact arrive (take := takeFrame (.release p tag a)) (K.frame _) ht
  | poll p tag => exact arrive (take := takeFrame (.poll p tag)) (K.frame _) ht

/-- The same where nothing is known of the timed changes: these commands leave none. -/
theorem KeptByEvents.ofExec (K : KeptByEvents P) {c : Instr} (h1 : c ≠ .completion)
    (h2 : c ≠ .periodExpiry) (h3 : c ≠ .resetAssert) (h4 : c ≠ .resetRelease) {s t : State}
    (hl : ∀ x, P x → P (finish s.instant.remainder x)) (h : P (dropTiming s))
    (ht : exec c s = .next t) : P t :=
  (K.untimed.ofEvent h1 h2 h3 h4 (fun x hx => ⟨hl x hx.1, by unfold Untimed; rw [finish_remainder]; exact hx.2⟩)
    (fun u hu x hx => ⟨K.finishes hu.2.1 hu.2.2 x hx.1, by unfold Untimed; rw [finish_remainder]; exact hx.2⟩)
    ⟨h, nofun, nofun⟩ ht).1

/-- A property that the timed operations keep too, every command keeps but the RESET line's two. -/
theorem KeptInTime.ofExec (K : KeptInTime P) {c : Instr} (h3 : c ≠ .resetAssert)
    (h4 : c ≠ .resetRelease) {s t : State} (h : P (dropTiming s)) (ht : exec c s = .next t) :
    P t := by
  by_cases h1 : c = .completion
  · subst h1
    exact K.around (KeptByEvents.gated fun _ x hx => K.completes x hx) (K.finishes _) (fun _ _ => K.finishes _) h ht
  · by_cases h2 : c = .periodExpiry
    · subst h2
      exact K.around (KeptByEvents.gated fun o x hx => K.expiry o _ (K.completes x hx))
        (K.finishes _) (fun _ _ => K.finishes _) h ht
    · exact K.toKeptByEvents.ofEvent h1 h2 h3 h4 (K.finishes _) (fun _ _ => K.finishes _) h ht

/-- A property that every operation keeps, every command keeps. -/
theorem Kept.ofExec (K : Kept P) (c : Instr) {s t : State} (hs : P s) (ht : exec c s = .next t) :
    P t := by
  have h : P (dropTiming s) := K.untimed s hs
  by_cases h3 : c = .resetAssert
  · subst h3
    exact K.around (fun _ x hx => K.reset x hx) (K.finishes _) (fun _ _ => K.finishes _) h ht
  · by_cases h4 : c = .resetRelease
    · subst h4
      refine K.around (f := fun _ x => if x.lines.reset then
        (x.withLines { x.lines with reset := false }).withEngine
          { x.engine with interval := some (paramDefaults.read Param.periodUs) } else x)
        (fun _ x hx => ?_) (K.finishes _) (fun _ _ => K.finishes _) h ht
      dsimp only
      split
      · next hr => exact K.started x hr hx
      · exact hx
    · exact K.toKeptInTime.ofExec h3 h4 h ht

/-- A property that every operation keeps, every step keeps. -/
theorem Kept.ofStep (K : Kept P) {s t : State} (h : P s) (ht : step s = .next t) : P t := by
  unfold Machine.step at ht
  cases hp : s.pending with
  | nil =>
    rw [hp] at ht
    obtain rfl := Host.Outcome.next.inj ht
    exact h
  | cons c rest =>
    rw [hp] at ht
    exact K.ofExec c (K.queued rest s h) ht

end Sys2Proof.Machine
end

