-- ==== Sys2Proof/Tests/Slice0.lean ====
section
/-! SUPPORT. The author's own tests: the ill-formed term that WellFormed refuses; frames written out byte by
byte from R181's layouts and R167's CRC; the manual's worked examples; and, for each statement with
hypotheses, states and operands that meet them, clause by clause. -/
namespace Sys2Proof.Tests.Slice0
open Sys2Proof Sys2Proof.Machine

/-! One theorem after another: each ends in a kernel evaluation, and waiting ones would hold a thread each. -/
set_option Elab.async false

/-! WellFormed: UNKNOWN_KIND with a received code is refused, with a sent or an unlisted code it is not. -/

theorem test_wellFormed_refuses_received_kind :
    (Instr.unknownKind .pv 0#8 0x10#8).wellFormed = false ∧
      (Instr.unknownKind .ps 0#8 0x7F#8).wellFormed = false := by decide

theorem test_wellFormed_accepts_other_kind :
    (Instr.unknownKind .pv 0#8 0x11#8).wellFormed = true ∧
      (Instr.unknownKind .pv 0#8 0x80#8).wellFormed = true := by decide

/-! Frames. -/

/-- The manual's check of the CRC: the nine bytes 0x31 to 0x39 give 0x29B1 (R167). -/
theorem test_crc_check :
    crc [0x31#8, 0x32#8, 0x33#8, 0x34#8, 0x35#8, 0x36#8, 0x37#8, 0x38#8, 0x39#8] = 0x29B1#16 := by
  decide +kernel

/-! The twenty bytes of one frame of each kind, laid out by hand from R181; the CRC was computed outside the
model. -/

theorem test_decode_demand :
    decodeFrame .pv
      [0x10#8, 0x07#8, 0xFE#8, 0xFF#8, 0x01#8, 0x00#8, 0x00#8, 0x00#8, 0x00#8, 0x00#8,
       0x00#8, 0x00#8, 0x00#8, 0x00#8, 0x00#8, 0x00#8, 0x00#8, 0x00#8, 0xB5#8, 0x7C#8] =
      .demand .pv 0x07#8 0xFFFE#16 0x01#8 := by
  decide +kernel

theorem test_decode_envelope :
    decodeFrame .pf
      [0x20#8, 0x01#8, 0x28#8, 0x0A#8, 0xC4#8, 0x09#8, 0x98#8, 0x00#8, 0x01#8, 0x00#8,
       0x00#8, 0x00#8, 0x00#8, 0x00#8, 0x00#8, 0x00#8, 0x00#8, 0x00#8, 0xDA#8, 0xBB#8] =
      .envelope .pf 0x01#8 0x0A28#16 0x09C4#16 0x0098#16 0x01#8 := by
  decide +kernel

theorem test_decode_reference :
    decodeFrame .ps
      [0x30#8, 0x02#8, 0x96#8, 0x00#8, 0x01#8, 0x00#8, 0x00#8, 0x00#8, 0x00#8, 0x00#8,
       0x00#8, 0x00#8, 0x00#8, 0x00#8, 0x00#8, 0x00#8, 0x00#8, 0x00#8, 0xEE#8, 0xF3#8] =
      .reference .ps 0x02#8 0x0096#16 0x01#8 := by
  decide +kernel

theorem test_decode_setParam :
    decodeFrame .pv
      [0x41#8, 0x03#8, 0x16#8, 0x00#8, 0x2C#8, 0x01#8, 0x00#8, 0x00#8, 0x00#8, 0x00#8,
       0x00#8, 0x00#8, 0x00#8, 0x00#8, 0x00#8, 0x00#8, 0x00#8, 0x00#8, 0xF0#8, 0x52#8] =
      .setParam .pv 0x03#8 0x16#8 0x012C#16 := by
  decide +kernel

theorem test_decode_readParam :
    decodeFrame .pv
      [0x42#8, 0x04#8, 0x27#8, 0x00#8, 0x00#8, 0x00#8, 0x00#8, 0x00#8, 0x00#8, 0x00#8,
       0x00#8, 0x00#8, 0x00#8, 0x00#8, 0x00#8, 0x00#8, 0x00#8, 0x00#8, 0x74#8, 0x23#8] =
      .readParam .pv 0x04#8 0x27#8 := by
  decide +kernel

theorem test_decode_writeCells :
    decodeFrame .pv
      [0x43#8, 0x05#8, 0x03#8, 0x0B#8, 0x01#8, 0x04#8, 0x6C#8, 0x02#8, 0x80#8, 0x02#8,
       0x94#8, 0x02#8, 0xBC#8, 0x02#8, 0x00#8, 0x00#8, 0x00#8, 0x00#8, 0xC6#8, 0x83#8] =
      .writeCells .pv 0x05#8 0x03#8 0x0B#8 0x01#8 0x04#8 0x026C#16 0x0280#16 0x0294#16 0x02BC#16 := by
  decide +kernel

theorem test_decode_selectMaps :
    decodeFrame .pv
      [0x44#8, 0x06#8, 0x01#8, 0x02#8, 0x00#8, 0x00#8, 0x00#8, 0x00#8, 0x00#8, 0x00#8,
       0x00#8, 0x00#8, 0x00#8, 0x00#8, 0x00#8, 0x00#8, 0x00#8, 0x00#8, 0x22#8, 0xC9#8] =
      .selectMaps .pv 0x06#8 0x01#8 0x02#8 := by
  decide +kernel

theorem test_decode_start :
    decodeFrame .pv
      [0x51#8, 0x08#8, 0x00#8, 0x00#8, 0x00#8, 0x00#8, 0x00#8, 0x00#8, 0x00#8, 0x00#8,
       0x00#8, 0x00#8, 0x00#8, 0x00#8, 0x00#8, 0x00#8, 0x00#8, 0x00#8, 0xEA#8, 0x3B#8] =
      .start .pv 0x08#8 := by
  decide +kernel

theorem test_decode_clearFault :
    decodeFrame .pv
      [0x54#8, 0x09#8, 0xFF#8, 0x00#8, 0x00#8, 0x00#8, 0x00#8, 0x00#8, 0x00#8, 0x00#8,
       0x00#8, 0x00#8, 0x00#8, 0x00#8, 0x00#8, 0x00#8, 0x00#8, 0x00#8, 0xC3#8, 0xB3#8] =
      .clearFault .pv 0x09#8 0xFF#8 := by
  decide +kernel

theorem test_decode_queueSegment :
    decodeFrame .pv
      [0x61#8, 0x0A#8, 0x05#8, 0x01#8, 0x01#8, 0x00#8, 0xBC#8, 0x02#8, 0xA0#8, 0x0F#8,
       0x00#8, 0x00#8, 0x00#8, 0x00#8, 0x00#8, 0x00#8, 0x00#8, 0x00#8, 0x96#8, 0xE0#8] =
      .queueSegment .pv 0x0A#8 0x05#8 0x01#8 0x01#8 0x02BC#16 0x0FA0#16 := by
  decide +kernel

theorem test_decode_intervene :
    decodeFrame .ps
      [0x71#8, 0x0B#8, 0x0C#8, 0x00#8, 0x01#8, 0x00#8, 0xF0#8, 0x0A#8, 0x32#8, 0x00#8,
       0x00#8, 0x00#8, 0x00#8, 0x00#8, 0x00#8, 0x00#8, 0x00#8, 0x00#8, 0x18#8, 0x4A#8] =
      .intervene .ps 0x0B#8 0x0C#8 0x00#8 0x01#8 0x0AF0#16 0x0032#16 := by
  decide +kernel

theorem test_decode_release :
    decodeFrame .ps
      [0x72#8, 0x0C#8, 0x0C#8, 0x00#8, 0x00#8, 0x00#8, 0x00#8, 0x00#8, 0x00#8, 0x00#8,
       0x00#8, 0x00#8, 0x00#8, 0x00#8, 0x00#8, 0x00#8, 0x00#8, 0x00#8, 0x98#8, 0x1C#8] =
      .release .ps 0x0C#8 0x0C#8 := by
  decide +kernel

theorem test_decode_poll :
    decodeFrame .pr
      [0x7F#8, 0x0D#8, 0x00#8, 0x00#8, 0x00#8, 0x00#8, 0x00#8, 0x00#8, 0x00#8, 0x00#8,
       0x00#8, 0x00#8, 0x00#8, 0x00#8, 0x00#8, 0x00#8, 0x00#8, 0x00#8, 0xD4#8, 0x6C#8] =
      .poll .pr 0x0D#8 := by
  decide +kernel

theorem test_decode_unknownKind :
    decodeFrame .pv
      [0x90#8, 0x0E#8, 0x00#8, 0x00#8, 0x00#8, 0x00#8, 0x00#8, 0x00#8, 0x00#8, 0x00#8,
       0x00#8, 0x00#8, 0x00#8, 0x00#8, 0x00#8, 0x00#8, 0x00#8, 0x00#8, 0x17#8, 0xB5#8] =
      .unknownKind .pv 0x0E#8 0x90#8 := by
  decide +kernel

/-- One flipped bit of the CRC (R167). -/
theorem test_decode_crcError :
    decodeFrame .pv
      [0x51#8, 0x08#8, 0x00#8, 0x00#8, 0x00#8, 0x00#8, 0x00#8, 0x00#8, 0x00#8, 0x00#8,
       0x00#8, 0x00#8, 0x00#8, 0x00#8, 0x00#8, 0x00#8, 0x00#8, 0x00#8, 0xEA#8, 0x3A#8] =
      .crcError .pv := by
  decide +kernel

/-! Small states. -/

/-- RUN, the lock set, every deadline at its default window (R89, R161). -/
def inRun : State :=
  { State.reset with
    mode := ⟨.run, true⟩
    supervisor := ⟨true, ⟨⟨.fresh, 20, false⟩, ⟨.fresh, 10, false⟩, ⟨.fresh, 10, false⟩,
      ⟨.fresh, 20, false⟩⟩⟩ }

/-- HALT after that RUN. -/
def inHalt : State := { inRun with mode := ⟨.halt, true⟩ }

/-- CONFIG with the window lock set. -/
def lockedConfig : State := { State.reset with mode := ⟨.config, true⟩ }

/-- A state with one parameter at a given value. -/
def withParam (s : State) (i : Fin 40) (v : Nat) : State := { s with params := s.params.write i v }

/-- A state with one port's deadline set. -/
def withDeadline (s : State) (p : Port) (d : Deadline) : State :=
  { s with supervisor := { s.supervisor with deadlines := s.supervisor.deadlines.set p d } }

/-- A state with one fault in a given state. -/
def withFault (s : State) (f : FaultId) (r : FaultRecord) : State := { s with faults := s.faults.set f r }

def okReply : Reply := ⟨7#8, 0x42#8, .ok, 50⟩
def zeroCmd : AxleCmd := ⟨0, 3#16, .run, true, SplitFlags.none, 2600⟩

/-- A state with one Link Port as given. -/
def withLink (s : State) (p : Port) (l : LinkPort) : State := { s with ports := s.ports.set p l }

/-- PV sends a REPLY, its slot occupied. -/
def replying : State :=
  withLink State.reset .pv ⟨.hunt, some okReply, false, some ⟨.reply, okReply.bytes⟩, StickySet.empty⟩

/-- PF sends a command frame with a fresher one waiting. -/
def commanding : State :=
  { withLink inRun .pf ⟨.hunt, none, true, some ⟨.command, zeroCmd.bytes⟩, StickySet.empty⟩ with
    commands := ⟨some zeroCmd, none⟩ }

/-- Case 1 of the manual's worked computations: drive, towing, rear slipping and capped (spec 02). -/
def towingCells : Vector Nat 64 :=
  ((((Vector.replicate 64 500).set 11 620).set 12 640).set 19 660).set 20 700

def case1 : Inputs :=
  { readInputs inRun with
    demand := ⟨5000, true⟩
    reference := ⟨true, 150, true⟩
    axles := ⟨⟨.reporting, 2600, 2600, 152, true⟩, ⟨.reporting, 4500, 4500, 171, true⟩⟩
    driveCells := towingCells
    constraints := [(.axleCap .rear, 2800), (.shareCeil, 600)]
    corr := ⟨0, 40⟩
    prev := ⟨2150, 2800⟩ }

/-- The Split Record of case 1 (spec 02). -/
def record1 : SplitRecord :=
  { periodNumber := 1#16, dUsed := 5000, totalCap := none, source := .map, sBase := 655,
    corr := ⟨0, 70⟩, sFinal := 585, limit := ⟨2600, 2800⟩, request := ⟨2200, 2800⟩,
    sent := ⟨2190, 2800⟩, shortfall := 0,
    flags := { SplitFlags.none with satR := true, redist := true, rateF := true } }

def seg1 : Segment := ⟨1, 0, 1, .step, false⟩
def seg2 : Segment := ⟨1, 1000, 4000, .ramp, true⟩
def seg3 : Segment := ⟨255, 500, 10, .ramp, false⟩

/-- A state in RUN that meets every invariant with something to lose in each. -/
def busy : State :=
  { inRun with
    lines := ⟨false, false, true⟩
    demand := ⟨16000, true⟩
    axles := case1.axles
    reference := case1.reference
    supervisor := ⟨true, ⟨⟨.fresh, 20, false⟩, ⟨.stale, 0, false⟩, ⟨.fresh, 0, false⟩,
      ⟨.fresh, 1, true⟩⟩⟩
    table := [⟨1, .axleCap .rear, 2800, 1⟩, ⟨255, .shareCeil, 1000, 1000⟩]
    queue := ⟨[seg1, seg2, seg3], .running, 0, some 655⟩
    faults := (State.reset.faults.set .linkF ⟨.latched, 0, false⟩).set .stallR ⟨.pending, 4999, true⟩
    engine := { State.reset.engine with
      inFlight := some case1
      corr := ⟨0, 300⟩
      prev := ⟨2190, 2800⟩
      periodNumber := 1#16
      record := record1 }
    commands := ⟨some zeroCmd, none⟩
    ports :=
      { State.reset.ports with
        pv := ⟨.receiving (List.replicate 19 0#8), some okReply, true, some ⟨.reply, okReply.bytes⟩,
          StickySet.empty⟩
        pf := ⟨.ready, none, true, some ⟨.command, zeroCmd.bytes⟩, StickySet.empty⟩ }
    pending := [.transmitCompletion .pv] }

/-! The manual's worked examples. -/

/-- Spec 02, "Example: interior point". -/
theorem test_interpolation_interior : interpolate paramDefaults towingCells 150 5000 = 655 := by
  decide +kernel

/-- Spec 02, "Example: falling cells and truncation toward zero". -/
theorem test_interpolation_falling :
    interpolate paramDefaults
      (((((Vector.replicate 64 500).set 0 300).set 8 420).set 1 280).set 9 380) 30 700 = 317 := by
  decide +kernel

/-- Spec 02, "Example: the edges of the map". -/
theorem test_interpolation_edges :
    interpolate paramDefaults (((Vector.replicate 64 500).set 61 700).set 62 725) 1800 9500 = 712 ∧
      interpolate paramDefaults ((Vector.replicate 64 500).set 63 760) 1600 14000 = 760 := by
  decide +kernel

/-- Spec 02, "Case 1": the whole computation. -/
theorem test_case1 :
    let r := computeSplit case1
    r.dUsed = 5000 ∧ r.sBase = 655 ∧ r.corr = ⟨0, 70⟩ ∧ r.sFinal = 585 ∧ r.limit = ⟨2600, 2800⟩ ∧
      r.request = ⟨2200, 2800⟩ ∧ r.shortfall = 0 ∧ r.command = ⟨2190, 2800⟩ ∧ r.totalCap = none ∧
      r.flags = { SplitFlags.none with satR := true, redist := true, rateF := true } := by
  decide +kernel

/-- Spec 02, "Case 2": both axles saturated in regeneration. -/
theorem test_case2 :
    place (-9000) (rearPart (-9000) 350) (frontPart (-9000) 350) 4000 3000 =
      ⟨-4000, -3000, 2000, true, true, false, true⟩ := by
  decide +kernel

/-- Spec 02, "Case 3": lift-off into regeneration, computations 1, 6 and 7 at the rear. -/
theorem test_case3 :
    rateLimited 40 420 (-270) = -40 ∧ rateLimited 40 (-200) (-270) = -240 ∧
      rateLimited 40 (-240) (-270) = -270 ∧ riseHeld 40 (-240) (-270) = false := by
  decide +kernel

/-- The inputs of "Case 4" (spec 02): LINK_V active, HOLD_V 2, DECAY_V 600, last demand 1500. -/
def case4 (n : Nat) (h : Int) : Inputs :=
  { case1 with
    demand := ⟨1500, true⟩
    params := (paramDefaults.write Param.holdV 2).write Param.decayV 600
    faults := case1.faults.set .linkV .active
    holdCount := n
    heldValue := h }

/-- Spec 02, "Case 4": computations 2, 3 and 5. -/
theorem test_case4 :
    (computeSplit (case4 1 1500)).dUsed = 1500 ∧ (computeSplit (case4 2 1500)).dUsed = 900 ∧
      (computeSplit (case4 4 300)).dUsed = 0 ∧ (computeSplit (case4 4 300)).holdCount = 5 := by
  decide +kernel

/-- Spec 02, the table of R31: a floor above the ceiling. -/
theorem test_share_conflict :
    let x := { case1 with constraints := [(.shareFloor, 550), (.shareCeil, 500)], corr := ⟨0, 0⟩ }
    finalShare x 300 = 500 ∧ (computeSplit x).flags.conflict = true := by
  decide +kernel

/-- Spec 06, "Example: a front drive unit falls silent and returns": the fresh event at 6300 µs leaves
LINK_F LATCHED and PF FRESH with its window. -/
theorem test_front_returns :
    let s := withFault (withDeadline (withParam inRun Param.winF 4) .pf ⟨.stale, 0, false⟩) .linkF
      ⟨.latched, 0, false⟩
    (refreshPort .pf s).supervisor.deadlines.pf = ⟨.fresh, 4, false⟩ ∧
      (refreshPort .pf s).faults.linkF.state = .latched := by
  decide +kernel

/-! One step of a command on a small state. -/

/-- A command's next state; the state itself where it has none. -/
def after (c : Instr) (s : State) : State :=
  match exec c s with
  | .next t => t
  | .fault _ => s
  | .refused _ => s

theorem test_step_idles_on_empty_queue : step State.reset = .next State.reset := rfl

/-- The status frame of a POLL after RESET: mode CONFIG, empty sets, final share 0 (R12, R177, R179). -/
theorem test_poll_sends_status :
    ((after (.poll .pr 0#8) State.reset).port .pr).sending =
      some ⟨.status, sealFrame (0x90#8 :: List.replicate 17 0#8)⟩ := by
  decide +kernel

/-- A READ_PARAM of GRANT answers 0 with its tag, and the frame begins at once (R164, R172). -/
theorem test_readParam_replies :
    ((after (.readParam .pv 9#8 39#8) State.reset).port .pv).sending =
      some ⟨.reply, sealFrame ([0x80#8, 9#8, 0x42#8, 0#8] ++ List.replicate 14 0#8)⟩ := by
  decide +kernel

/-- A DEMAND of −20000 is stored as −12000 and marks CLAMPED (R86). -/
theorem test_demand_clamps :
    (after (.demand .pv 0#8 0xB1E0#16 1#8) State.reset).demand = ⟨-12000, true⟩ ∧
      ((after (.demand .pv 0#8 0xB1E0#16 1#8) State.reset).port .pv).sticky.clamped = true := by
  decide +kernel

/-- START from CONFIG: RUN, the lock, the deadlines of the default windows (R89, R155). -/
theorem test_start_runs :
    (after (.start .pv 0#8) State.reset).mode = ⟨.run, true⟩ ∧
      (after (.start .pv 0#8) State.reset).supervisor = inRun.supervisor := by
  decide +kernel

/-- PERIOD_EXPIRY counts a deadline of 10 down to 9 and puts a computation in flight (R3, R90). -/
theorem test_periodExpiry_counts :
    (after .periodExpiry inRun).supervisor.deadlines.pf.remaining = 9 ∧
      (after .periodExpiry inRun).engine.inFlight.isSome = true := by
  decide +kernel

/-- The first COMPLETION after RESET publishes period 1 with final share 500 (spec 01, "Example: the first
periods after RESET"). -/
theorem test_first_completion :
    (after .completion (after .periodExpiry State.reset)).engine.record.sFinal = 500 ∧
      (after .completion (after .periodExpiry State.reset)).engine.record.periodNumber = 1#16 := by
  decide +kernel

/-- A DEADLINE_EXPIRY of PF latches LINK_F and asserts FAULT (spec 06, the example at 5000 µs). -/
theorem test_deadlineExpiry_latches :
    let t := after (.deadlineExpiry .pf) (withDeadline inRun .pf ⟨.fresh, 0, false⟩)
    t.faults.linkF.state = .latched ∧ t.lines.fault = true ∧
      (t.port .ps).sending.isSome = true := by
  decide +kernel


/-! Commands of one instant (log entries 22 to 24): each `joining` list is taken in its order. -/

/-- A state whose next commands fall at one instant, with the order of each command's two changes. -/
def joining (l : List Order) (s : State) : State :=
  { s with instant := { s.instant with
      timing := (l.take 1).map (Timing.mk false) ++ (l.drop 1).map (Timing.mk true) } }

/-- The state after several commands. -/
def afterAll (cs : List Instr) (s : State) : State := cs.foldl (fun x c => after c x) s

/-- START then SHUTOFF at one instant: one STATUS frame on each idle line, and it reports HALT (R153). -/
theorem test_start_then_shutoff_folds :
    let t := afterAll [.start .pv 0#8, .shutoffAssert] (joining [.whole, .whole] State.reset)
    t.mode.state = .halt ∧ (t.port .pf).sending.map (fun x => byteAt x.bytes 2) = some 2#8 ∧
      (t.port .pf).statusWaiting = false ∧
      ((after (.start .pv 0#8) (joining [.whole, .whole] State.reset)).port .pf).sending = none := by
  decide +kernel

/-- Two deadlines that expire at one instant send one STATUS frame a port, with both marks (R145). -/
theorem test_two_entries_fold :
    let s := withDeadline (withDeadline inRun .pf ⟨.fresh, 1, false⟩) .pr ⟨.fresh, 1, false⟩
    let t := afterAll [.deadlineExpiry .pf, .deadlineExpiry .pr] (joining [.whole, .whole] s)
    (t.port .ps).sending.map (fun x => byteAt x.bytes 5) = some 6#8 ∧
      (t.port .ps).statusWaiting = false := by
  decide +kernel

/-- A DEADLINE_EXPIRY and the expiry that a PERIOD_EXPIRY of the same instant brings about send one STATUS frame
a port, with both marks (R145), also where the period expiry leaves its countdown for later. -/
theorem test_entry_of_the_countdown_folds :
    let s := withDeadline (withDeadline inRun .pf ⟨.fresh, 1, false⟩) .pr ⟨.fresh, 1, false⟩
    let t := fun o => afterAll [.deadlineExpiry .pf, .periodExpiry] (joining [.whole, o] s)
    (∀ o ∈ [Order.whole, .firstNow, .secondNow],
      ((t o).port .ps).sending.map (fun x => byteAt x.bytes 5) = some 6#8 ∧
        ((t o).port .ps).statusWaiting = false ∧ (t o).engine.inFlight.isSome = true) := by
  decide +kernel

/-- PV is STALE, LINK_V ACTIVE, the last torque 1000. -/
def silentV : State :=
  withFault { withDeadline inRun .pv ⟨.stale, 0, false⟩ with demand := ⟨1000, true⟩ } .linkV
    ⟨.active, 0, false⟩

/-- What a computation reads whose start lies between the two changes of a DEMAND of 2000 (R20, R88):
the new torque with LINK_V still ACTIVE, or the old torque with LINK_V CLEAR. -/
theorem test_start_between_record_and_fresh_event :
    ((afterAll [.demand .pv 0#8 2000#16 1#8, .periodExpiry]
        (joining [.secondNow, .whole] silentV)).engine.inFlight.map
          fun x => (x.demand.torque, x.faults.linkV)) = some (2000, .active) ∧
      ((afterAll [.demand .pv 0#8 2000#16 1#8, .periodExpiry]
        (joining [.firstNow, .whole] silentV)).engine.inFlight.map
          fun x => (x.demand.torque, x.faults.linkV)) = some (1000, .clear) := by
  decide +kernel

/-- The row "LINK_S clearing only" of R83: the old valid speed, LINK_S CLEAR. -/
theorem test_start_between_fresh_event_and_reference :
    let s := withFault { withDeadline inRun .ps ⟨.stale, 0, false⟩ with reference := ⟨true, 100, true⟩ }
      .linkS ⟨.active, 0, false⟩
    ((afterAll [.reference .ps 0#8 200#16 1#8, .periodExpiry]
        (joining [.firstNow, .whole] s)).engine.inFlight.map
          fun x => (x.reference.speed, x.faults.linkS)) = some (100, .clear) := by
  decide +kernel

/-- A frame on the instant of its port's expiry, window 2 (R95): taken first, the countdown follows it, and a
DEADLINE_EXPIRY of that instant is none; taken after, the port was STALE, and returns with its window. -/
theorem test_frame_at_its_expiry :
    let s := withDeadline (withParam inRun Param.winV 2) .pv ⟨.fresh, 1, false⟩
    let cs := [Instr.periodExpiry, .poll .pv 0#8, .deadlineExpiry .pv]
    (afterAll cs (joining [.firstNow, .whole, .whole] s)).supervisor.deadlines.pv = ⟨.fresh, 1, false⟩ ∧
      (afterAll cs (joining [.whole, .whole, .whole] s)).supervisor.deadlines.pv = ⟨.fresh, 2, false⟩ ∧
      ((afterAll cs (joining [.firstNow, .whole, .whole] s)).port .pr).sending.isSome = false := by
  decide +kernel

/-- START in HALT on the instant of PV's expiry (R89, R95): before the countdown it leaves WIN_V − 1, after
the expiry PV was STALE, LINK_V has entered, and the frame's refresh has cleared it. -/
theorem test_start_at_an_expiry :
    let s := withDeadline inHalt .pv ⟨.fresh, 1, false⟩
    let early := afterAll [.periodExpiry, .start .pv 0#8] (joining [.firstNow, .whole] s)
    let late := afterAll [.periodExpiry, .start .pv 0#8] (joining [.whole, .whole] s)
    early.supervisor.deadlines.pv = ⟨.fresh, 19, false⟩ ∧ early.mode.state = .run ∧
      (early.port .pf).sending.map (fun x => byteAt x.bytes 5) = some 0#8 ∧
      late.supervisor.deadlines.pv = ⟨.fresh, 20, false⟩ ∧
      (late.port .pf).sending.map (fun x => byteAt x.bytes 5) = some 1#8 := by
  decide +kernel

/-- CORR_MAX raised from 0 to 300 with a computation in flight: its slip observation is still that of 0, so a
correction of 0 is present (R17, R161). -/
theorem test_raised_corrMax_waits :
    let s := { withParam State.reset Param.corrMax 300 with
      engine := { State.reset.engine with
        inFlight := some { case1 with mode := .config, corr := ⟨0, 0⟩,
                                      params := paramDefaults.write Param.corrMax 0 } } }
    (after .completion s).faults.slipF.latest = true ∧ (after .completion s).faults.slipR.latest = true := by
  decide +kernel
/-! Witnesses: for each statement with hypotheses, states and operands that meet them together. -/

theorem quiet_of_reset_ports {s : State} (hp : s.ports = State.reset.ports)
    (hc : s.commands = State.reset.commands) : Quiet s := by
  intro q _
  cases q <;> simp [State.port, waitingCommand, portAxle, hp, hc] <;> decide

theorem answerable_of_reset_ports {s : State} (p : Port) (c : Instr)
    (hp : s.ports = State.reset.ports) (hl : s.lines.reset = false) : Answerable s p c := by
  refine ⟨?_, ?_⟩
  · simp only [canArrive, State.port, hp, hl]
    cases p <;> rfl
  · simp only [State.port, hp]
    cases p <;> decide

/-- A state with idle, empty ports, nothing left of an earlier instant and no deadline due is settled. -/
theorem settled_of_reset_ports {s : State} (hp : s.ports = State.reset.ports)
    (hc : s.commands = State.reset.commands) (hr : s.instant.remainder = none)
    (hn : s.instant.counted = false) (hd : ∀ p, deadlineDue s p = false) : Settled s :=
  ⟨hr, hn, hd, quiet_of_reset_ports hp hc⟩

theorem settled_inRun : Settled inRun :=
  settled_of_reset_ports rfl rfl rfl rfl fun p => by cases p <;> rfl

theorem settled_reset : Settled State.reset :=
  settled_of_reset_ports rfl rfl rfl rfl fun p => by cases p <;> rfl

theorem witness_StepTakesTheFrontCommand :
    busy.pending = .transmitCompletion .pv :: [] ∧ State.reset.pending = [] := ⟨rfl, rfl⟩

/-- A settled state; commands that join their instant and that do not; one that leaves a change, and one that
leaves none and no deadline due. -/
theorem witness_EveryCommandCompletes :
    Settled inRun ∧ joinsInstant inRun = false ∧
      joinsInstant (joining [.whole, .firstNow] inRun) = false ∧
      joinsInstant (after .periodExpiry (joining [.firstNow, .whole] inRun)) = true ∧
      (after .periodExpiry (joining [.firstNow, .whole] inRun)).instant.remainder = some .countdown ∧
      (inRun.instant.remainder = none ∧ inRun.instant.counted = false ∧
        ∀ p, deadlineDue inRun p = false) :=
  ⟨settled_inRun, rfl, rfl, by decide +kernel, by decide +kernel, rfl, rfl, settled_inRun.2.2.1⟩

theorem witness_ResetReturnsTheResetState :
    (∃ t, exec .resetAssert busy = .next t) ∧ (resetAsserted true [] []).lines.reset = true ∧
      busy.lines.reset = false := ⟨⟨_, rfl⟩, rfl, rfl⟩

theorem witness_NothingMovesWhileResetIsAsserted :
    let s := resetAsserted true [⟨true, .whole⟩] [.completion]
    s.lines.reset = true ∧ ResetHolds s := ⟨rfl, fun _ => rfl⟩

/-- `busy` takes a step, and its next state is another. -/
theorem busy_steps : ∃ t, step busy = .next t ∧ t ≠ busy := by
  refine ⟨_, rfl, fun h => ?_⟩
  have := congrArg State.pending h
  revert this
  decide +kernel

theorem witness_FaultLineFollowsTheFaults : FaultLineAgrees busy ∧ FaultLineAgrees State.reset := by
  refine ⟨⟨fun _ => ⟨.linkF, .inr rfl, by decide +kernel⟩, fun _ => rfl⟩, ⟨fun h => absurd h (by decide), ?_⟩⟩
  · rintro ⟨f, h, _⟩
    revert h
    cases f <;> decide

theorem witness_StepKeepsTheTableWellFormed : TableWf busy.table := by
  unfold TableWf
  decide +kernel

theorem shareInputs_case1 : ShareInputsWf case1 :=
  ⟨by decide +kernel, fun pr h => by simp [case1, readInputs, readProgram, inRun, State.reset,
    ProgramQueue.empty] at h⟩

/-- Case 1 with its program running, at the last computation of its segment. -/
theorem shareInputs_running :
    ShareInputsWf { case1 with program := some ⟨seg3, 9, some 1000⟩ } := by
  refine ⟨by decide +kernel, fun pr h => ?_⟩
  obtain rfl : (⟨seg3, 9, some 1000⟩ : ProgramInput) = pr := by simpa using h
  refine ⟨by unfold SegmentWf; decide, by decide, fun v hv => ?_⟩
  obtain rfl : 1000 = v := by simpa using hv
  decide

theorem queueWf_busy : QueueWf busy.queue := by
  refine ⟨by decide, ?_, ?_, ?_, ?_, fun _ => ⟨?_, ?_⟩⟩
  · unfold SegmentWf
    decide
  · decide +kernel
  · intro v h
    obtain rfl : 655 = v := by simpa [busy] using h
    decide
  · intro h
    revert h
    decide
  · decide
  · intro g hg
    obtain rfl : seg1 = g := by simpa [busy] using hg
    decide

theorem witness_StepKeepsTheQueueWellFormed : QueueWf busy.queue ∧ SharesWf busy := by
  refine ⟨queueWf_busy, ?_, fun x hx => ?_⟩
  · unfold MapsWf
    decide +kernel
  · obtain rfl : case1 = x := by simpa [busy] using hx
    exact shareInputs_case1

theorem witness_RunningProgramsKeepTheirConditions :
    RunningConditions busy ∧ busy.queue.state = .running := by
  refine ⟨fun _ => ⟨rfl, rfl, ?_⟩, rfl⟩
  decide

theorem witness_CorrectionsStayWithinCorrMax :
    CorrectionsWf busy ∧ busy.engine.corr.rear = (busy.params.read Param.corrMax : Int) := by
  refine ⟨⟨fun a => ?_, fun x hx a => ?_⟩, ?_⟩
  · cases a <;> decide +kernel
  · obtain rfl : case1 = x := by simpa [busy] using hx
    cases a <;> decide +kernel
  · decide +kernel

theorem witness_PublicationKeepsItsBounds :
    PrevAgrees busy ∧ RecordWf busy.engine.record ∧ CommandsWf busy := by
  refine ⟨⟨rfl, rfl⟩, ⟨by decide, by decide, ?_, ?_, by decide, by decide, ?_, by decide⟩, ?_⟩
  · intro a
    cases a <;> decide
  · intro a
    cases a <;> decide
  · intro c h
    exact absurd h (by simp [busy, record1])
  · intro a c h
    cases a
    · obtain rfl : zeroCmd = c := by simpa [busy, PerAxle.get] using h
      exact ⟨by decide, by decide, by decide⟩
    · simp [busy, PerAxle.get] at h

theorem witness_ModeRulesSupervisorLockAndParameters : SupervisorWf busy ∧ RunConsistent busy := by
  refine ⟨⟨by decide, ?_, ?_⟩, fun _ => ⟨by decide +kernel, rfl⟩⟩
  · intro h
    revert h
    decide
  · intro p
    cases p <;> decide

theorem witness_FaultRecordsKeepTheirRules : FaultMonitorWf busy := by
  refine ⟨⟨?_, ?_, ?_, ?_⟩, ?_, ?_⟩
  · intro f
    cases f <;> decide
  · intro f
    cases f <;> decide
  · intro p
    cases p <;> decide
  · intro f
    cases f <;> decide
  · intro p
    cases p <;> decide
  · intro p
    cases p <;> decide

theorem countsWf_busy : CountsWf busy := by
  refine ⟨by decide +kernel, fun p => ?_, fun f => ?_⟩
  · cases p <;> decide
  · cases f <;> decide

theorem recordsWf_busy : RecordsWf busy := by
  refine ⟨by decide, by decide, by decide, fun a => ?_⟩
  cases a <;>
    exact ⟨by decide, by decide, by decide, by decide,
      fun h => by simp [busy, case1, PerAxle.get] at h⟩

theorem engineWf_busy : EngineWf busy.engine := by
  refine ⟨fun a => ?_, by decide, by decide, by decide, by decide, fun a => ?_, fun a => ?_, by decide,
    by decide⟩ <;> cases a <;> decide

theorem inputsWf_case1 : InputsWf case1 := by
  refine ⟨shareInputs_case1, by decide, by decide, fun a => ?_, by decide, by decide +kernel, fun a => ?_,
    fun a => ?_, by decide, by decide⟩ <;> cases a <;> decide +kernel

theorem witness_StoredValuesStayInRange :
    CountsWf busy ∧ MapsWf busy.maps ∧ RecordsWf busy ∧ StoredWf busy := by
  refine ⟨countsWf_busy, witness_StepKeepsTheQueueWellFormed.2.1, recordsWf_busy, countsWf_busy,
    witness_StepKeepsTheQueueWellFormed.2.1, recordsWf_busy, witness_StepKeepsTheTableWellFormed,
    queueWf_busy, witness_CorrectionsStayWithinCorrMax.1, engineWf_busy, fun x hx => ?_⟩
  obtain rfl : case1 = x := by simpa [busy] using hx
  exact inputsWf_case1

theorem witness_TransmittersNeverIdleWithAFrame : TransmitWf busy := by
  refine ⟨fun _ => ?_, ?_⟩
  · intro q
    cases q <;> decide +kernel
  · intro p t h
    cases p
    · obtain rfl : (⟨.reply, okReply.bytes⟩ : Transmission) = t := by
        simpa [busy, State.port, PerPort.get] using h
      exact ⟨by decide, by decide +kernel, fun _ => by decide⟩
    · obtain rfl : (⟨.command, zeroCmd.bytes⟩ : Transmission) = t := by
        simpa [busy, State.port, PerPort.get] using h
      exact ⟨by decide, by decide +kernel, by decide⟩
    · simp [busy, State.port, PerPort.get, State.reset, LinkPort.reset] at h
    · simp [busy, State.port, PerPort.get, State.reset, LinkPort.reset] at h

theorem witness_ReceptionAndResetStayWellFormed :
    ReceiversWf busy ∧ ResetHolds (resetAsserted false [] [.resetRelease]) := by
  refine ⟨fun p held h => ?_, fun _ => rfl⟩
  cases p
  · obtain rfl : List.replicate 19 0#8 = held := by simpa [busy, State.port, PerPort.get] using h
    decide
  · simp [busy, State.port, PerPort.get] at h
  · simp [busy, State.port, PerPort.get, State.reset, LinkPort.reset] at h
  · simp [busy, State.port, PerPort.get, State.reset, LinkPort.reset] at h

theorem witness_ModeChangesOnlyByTheTable :
    (∃ t, exec .shutoffAssert inRun = .next t ∧ t.mode.state = .halt) ∧
      ∃ t, exec (.start .pv 0#8) State.reset = .next t ∧ t.mode.state = .run := by
  refine ⟨⟨_, rfl, ?_⟩, ⟨_, rfl, ?_⟩⟩ <;> decide +kernel

theorem witness_ParametersAreLockedOutsideConfig :
    (∃ t, exec (.setParam .pv 0#8 29#8 5#16) lockedConfig = .next t) ∧
      lockedConfig.mode.windowLock = true ∧ inRun.mode.state ≠ .config :=
  ⟨⟨_, rfl⟩, rfl, by decide⟩

theorem witness_DriveUnitsCannotConfigure :
    portOf (.envelope .pf 0#8 1#16 1#16 1#16 1#8) = some .pf ∧
      portOf (.deadlineExpiry .pr) = some .pr ∧
      inRun.instant.remainder = none := ⟨rfl, rfl, rfl⟩

theorem witness_InputsAreHeldUntilCompletion :
    busy.engine.inFlight = some case1 ∧ busy.instant.remainder ≠ some .computationStart ∧
      ∃ t, exec .lifetimeExpiry busy = .next t := ⟨rfl, by decide, _, rfl⟩

/-- A DEMAND whose thirteen unlisted bytes are not 0 (R181). -/
def demandFilled : List Byte :=
  sealFrame ([0x10#8, 1#8, 2#8, 0#8, 3#8] ++ List.replicate 13 0xFF#8)

theorem witness_FrameBytesDecodeToTheirCommand :
    (∃ f, commandFrame (.demand .pv 1#8 2#16 3#8) = some f ∧ byteAt demandFilled 0 = byteAt f 0 ∧
      byteAt demandFilled 1 = byteAt f 1 ∧ demandFilled ≠ f ∧
      ∀ i ∈ listedBytes (.demand .pv 1#8 2#16 3#8), byteAt demandFilled i = byteAt f i) ∧
      goodFrame demandFilled = true ∧ (Instr.unknownKind .ps 1#8 0xA0#8).wellFormed = true ∧
      ∃ f, commandFrame (.unknownKind .ps 1#8 0xA0#8) = some f := by
  refine ⟨⟨_, rfl, ?_⟩, ?_, ?_, _, rfl⟩ <;> decide +kernel

/-- The nineteen bytes of a START and a twentieth that breaks its CRC. -/
theorem witness_ByteByByteReceptionIsTheFrameCommand :
    (Instr.start .pv 1#8).wellFormed = true ∧ portOf (.start .pv 1#8) = some .pv ∧
      (∃ f, commandFrame (.start .pv 1#8) = some f ∧
        goodFrame (f.take 19 ++ [~~~ (byteAt f 19)]) = false ∧ (f.take 19).length = 19) ∧
      State.reset.lines.reset = false ∧ (State.reset.port .pv).receiver = .hunt ∧
      Settled State.reset ∧ State.reset.instant.timing = [] :=
  ⟨rfl, rfl, ⟨_, rfl, by decide +kernel, by decide +kernel⟩, rfl, rfl, settled_reset, rfl⟩

theorem witness_ReceiverEventsFollowTheStates :
    busy.lines.reset = false ∧ (busy.port .pr).receiver = .hunt ∧
      (busy.port .pf).receiver = .ready ∧
      (∃ held, (busy.port .pv).receiver = .receiving held ∧ held.length = 19) ∧
      ((withLink inRun .ps { LinkPort.reset with receiver := .receiving (List.replicate 18 0#8) }).port
        .ps).receiver = .receiving (List.replicate 18 0#8) :=
  ⟨rfl, rfl, rfl, ⟨_, rfl, rfl⟩, rfl⟩

theorem witness_GoodFramesRefreshTheDeadline :
    State.reset.supervisor.armed = false ∧ busy.supervisor.armed = true ∧
      busy.supervisor.deadlines.get .pr = ⟨.fresh, 0, false⟩ ∧
      busy.supervisor.deadlines.get .ps = ⟨.fresh, 1, true⟩ ∧
      busy.supervisor.deadlines.get .pf = ⟨.stale, 0, false⟩ ∧
      (busy.faults.get (linkFault .pf)).state = .latched ∧
      ((withFault busy .linkF ⟨.active, 0, false⟩).faults.get (linkFault .pf)).state = .active :=
  ⟨rfl, rfl, rfl, rfl, rfl, rfl, rfl⟩

theorem witness_FramesWithoutPermissionAreRefused :
    frameOf (.selectMaps .ps 0#8 1#8 2#8) = some (.ps, .selectMaps, 0#8) ∧
      permitted inRun .ps .selectMaps = false ∧
      permitted (withParam inRun Param.grant 2) .ps .selectMaps = false ∧
      Answerable inRun .ps (.selectMaps .ps 0#8 1#8 2#8) :=
  ⟨rfl, by decide +kernel, by decide +kernel, answerable_of_reset_ports _ _ rfl rfl⟩

theorem quiet_replying : Quiet replying := by
  intro q
  cases q <;> decide +kernel

theorem witness_OverrunFramesAreDiscarded :
    frameOf (.start .pv 0#8) = some (.pv, .start, 0#8) ∧ Kind.silent .start = false ∧
      canArrive replying .pv (.start .pv 0#8) = true ∧
      (replying.port .pv).reply ≠ none ∧
      frameOf (.reference .pv 0#8 1#16 1#8) = some (.pv, .reference, 0#8) ∧
      permitted replying .pv .reference = false :=
  ⟨rfl, rfl, rfl, by decide, rfl, rfl⟩

theorem witness_UnknownKindsAreRefused :
    0x81#8 ∉ receivedKinds ∧ Answerable inRun .pf (.unknownKind .pf 0#8 0x81#8) ∧
      canArrive replying .pv (.unknownKind .pv 0#8 0x81#8) = true ∧
      (replying.port .pv).reply ≠ none :=
  ⟨by decide, answerable_of_reset_ports _ _ rfl rfl, rfl, by decide⟩

theorem settled_replying : Settled replying :=
  ⟨rfl, rfl, fun p => by cases p <;> rfl, quiet_replying⟩

theorem alone_of_no_timing {s : State} (h : s.instant.timing = []) : Alone s := by
  simp [Alone, h]

theorem witness_PollTriggersStatusOnItsPort :
    canArrive replying .pv (.poll .pv 0#8) = true ∧ (replying.port .pv).sending ≠ none ∧
      canArrive replying .ps (.poll .ps 0#8) = true ∧ (replying.port .ps).sending = none ∧
      Settled replying ∧ Alone replying ∧ CountsWf replying :=
  ⟨rfl, by decide, rfl, rfl, settled_replying, alone_of_no_timing rfl, by decide,
    fun p => by cases p <;> decide, fun f => by cases f <;> decide⟩

theorem witness_StatusFrameCarriesTheState :
    busy.queue.state = .running ∧ busy.queue.segments.head? = some seg1 ∧
      State.reset.queue.state = .idle := ⟨rfl, rfl, rfl⟩

/-- PF sends a command frame with nothing else waiting, and with only a status frame waiting. -/
def lastFrame (status : Bool) : State :=
  withLink inRun .pf ⟨.hunt, none, status, some ⟨.command, zeroCmd.bytes⟩, StickySet.empty⟩

/-- PV sends a status frame with a REPLY waiting. -/
def replyWaits : State :=
  withLink State.reset .pv ⟨.hunt, some okReply, true, some ⟨.status, []⟩, StickySet.empty⟩

/-- An idle line of PF with what waits as given. -/
def idleLine (c : Option AxleCmd) (r : Option Reply) (status : Bool) : State :=
  { withLink inRun .pf ⟨.hunt, r, status, none, StickySet.empty⟩ with commands := ⟨c, none⟩ }

theorem witness_TransmitCompletionChoosesByRank :
    ((opened replying).port .pf).sending = none ∧
      (((opened commanding).port .pf).sending ≠ none ∧
        waitingCommand (opened commanding) .pf = some zeroCmd) ∧
      (waitingCommand (opened replyWaits) .pv = none ∧
        ((opened replyWaits).port .pv).reply = some okReply) ∧
      (((opened (lastFrame true)).port .pf).statusWaiting = true ∧
        waitingCommand (opened (lastFrame true)) .pf = none) ∧
      ((opened (lastFrame false)).port .pf).statusWaiting = false ∧
      (waitingCommand (idleLine (some zeroCmd) (some okReply) true) .pf = some zeroCmd ∧
        waitingCommand (idleLine none (some okReply) true) .pf = none ∧
        ((idleLine none (some okReply) true).port .pf).reply = some okReply ∧
        ((idleLine none none true).port .pf).statusWaiting = true) := by
  refine ⟨?_, ⟨?_, ?_⟩, ⟨?_, ?_⟩, ⟨?_, ?_⟩, ?_, ?_, ?_, ?_, ?_⟩ <;> decide +kernel

theorem witness_DemandReplacesTheRecord :
    canArrive replying .pv (.demand .pv 0#8 0xB1E0#16 0#8) = true ∧
      canArrive inRun .pv (.demand .pv 0#8 16001#16 0#8) = true ∧
      (∀ l, canArrive (joining l silentV) .pv (.demand .pv 0#8 16001#16 0#8) = true) ∧
      ((opened (joining [.firstNow] silentV)).supervisor.armed = true ∧
        ((opened (joining [.firstNow] silentV)).supervisor.deadlines.get .pv).freshness = .stale ∧
        (timingOf (joining [.firstNow] silentV)).order = .firstNow ∧
        (timingOf (joining [.secondNow] silentV)).order = .secondNow ∧
        (timingOf silentV).order = .whole) ∧
      silentV.lines.reset = false := by
  refine ⟨rfl, rfl, fun _ => rfl, ⟨?_, ?_, rfl, rfl, rfl⟩, rfl⟩ <;> decide +kernel

theorem witness_EnvelopeAndReferenceReplaceTheirRecords :
    portAxle .pf = some .front ∧ portAxle .pr = some .rear ∧
      canArrive inRun .pr (.envelope .pr 0#8 8001#16 8000#16 2501#16 0#8) = true ∧
      canArrive inRun .ps (.reference .ps 0#8 2501#16 1#8) = true ∧
      ((opened (joining [.secondNow] (withDeadline inRun .ps ⟨.stale, 0, false⟩))).supervisor.deadlines.get
        .ps).freshness = .stale :=
  ⟨rfl, rfl, rfl, rfl, by decide +kernel⟩

theorem witness_ParametersAreWrittenAndRead :
    (Answerable inRun .pv (.setParam .pv 0#8 22#8 600#16) ∧ inRun.mode.state ≠ .config) ∧
      (∀ id v, Answerable lockedConfig .pv (.setParam .pv 0#8 id v)) ∧
      lockedConfig.mode.state = .config ∧ lockedConfig.mode.windowLock = true ∧
      paramAdmits 22 600 = true ∧ paramAdmits 22 601 = false ∧ paramAdmits 38 255 = true ∧
      paramAdmits 0 501 = false ∧ paramAdmits 0 500 = true ∧ Answerable inRun .pv (.readParam .pv 0#8 39#8) :=
  ⟨⟨answerable_of_reset_ports _ _ rfl rfl, by decide⟩,
    fun _ _ => answerable_of_reset_ports _ _ rfl rfl, rfl, rfl, rfl, rfl, rfl, rfl, rfl,
    answerable_of_reset_ports _ _ rfl rfl⟩

/-- Cell 63 alone; a column that ends in cell 63; and a write that a selected map of RUN refuses. -/
theorem witness_WriteCellsStoresOrRefusesWhole :
    (63 + (1 - 1) * 1 ≤ 63 ∧ 39 + (4 - 1) * 8 ≤ 63) ∧
      (∀ k, k < 4 → [1000, 0, 1000, 0].getD k 0 ≤ 1000) ∧
      (∀ c, Answerable inRun .pv c) ∧
      ¬ (inRun.mode.state = .run ∧ ((3 : Fin 4) = inRun.maps.drive ∨ 3 = inRun.maps.regen)) ∧
      (inRun.mode.state = .run ∧ (0#8).toNat = inRun.maps.drive.val) := by
  refine ⟨by decide, by decide, fun c => answerable_of_reset_ports _ c rfl rfl, by decide, ?_⟩
  decide

theorem witness_SelectMapsSetsBothSelections :
    permitted inRun .pv .selectMaps = true ∧
      permitted (withParam inRun Param.grant 1) .ps .selectMaps = true ∧
      ∀ p c, Answerable (withParam inRun Param.grant 1) p c := by
  refine ⟨rfl, by decide +kernel, fun p c => ?_⟩
  exact answerable_of_reset_ports p c rfl rfl

/-- START in RUN, under SHUTOFF, with an inconsistent set; taken with a STALE port, with a deadline due, and
on the instant of an expiry in both orders. -/
theorem witness_StartEntersRun :
    (∀ s : State, s.ports = State.reset.ports → s.lines.reset = false →
      Answerable s .pv (.start .pv 0#8)) ∧ inRun.mode.state = .run ∧
      ({ inHalt with lines := ⟨false, true, false⟩ } : State).lines.shutoff = true ∧
      consistent (withParam State.reset Param.stallCap 3000).params = false ∧
      (consistent (withParam inHalt Param.stallCap 2999).params = true ∧ inHalt.mode.state ≠ .run ∧
        inHalt.lines.shutoff = false) ∧
      (∀ p, ((refreshPort .pv (opened (withDeadline inHalt .pf ⟨.stale, 0, false⟩))).supervisor.deadlines.get
        p).freshness = (if p = .pf then .stale else .fresh)) ∧
      ((opened (withDeadline inHalt .ps ⟨.fresh, 0, false⟩)).supervisor.deadlines.get .ps).freshness =
        .stale := by
  refine ⟨fun s hp hl => answerable_of_reset_ports _ _ hp hl, rfl, rfl, by decide +kernel,
    ⟨by decide +kernel, by decide, rfl⟩, fun p => ?_, by decide +kernel⟩
  cases p <;> decide +kernel

theorem witness_StopAndShutoffEnterHalt :
    (∀ s, s = State.reset ∨ s = inHalt ∨ s = inRun → Answerable s .pv (.stop .pv 0#8)) ∧
      State.reset.mode.state = .config ∧ inHalt.mode.state = .halt ∧ inRun.mode.state = .run ∧
      inRun.lines.reset = false := by
  refine ⟨?_, rfl, rfl, rfl, rfl⟩
  rintro s (rfl | rfl | rfl) <;> exact answerable_of_reset_ports _ _ rfl rfl

theorem witness_ConfigureEntersConfig :
    ∀ s, s = State.reset ∨ s = inHalt ∨ s = inRun → Answerable s .pv (.configure .pv 0#8) := by
  rintro s (rfl | rfl | rfl) <;> exact answerable_of_reset_ports _ _ rfl rfl

/-- LINK_F LATCHED with PF STALE (condition present) and FRESH (absent); STALL_F with either latest
observation. -/
theorem witness_ClearFaultTestsTheCondition :
    (∀ s : State, s.ports = State.reset.ports →
      s.lines.reset = false → ∀ id, Answerable s .pv (.clearFault .pv 0#8 id)) ∧
      FaultCondition (withDeadline inRun .pf ⟨.stale, 0, false⟩) .linkF ∧
      ¬ FaultCondition inRun .linkF ∧
      FaultCondition (withFault inRun .stallF ⟨.latched, 10, true⟩) .stallF ∧
      ¬ FaultCondition (withFault inRun .stallF ⟨.latched, 10, false⟩) .stallF := by
  refine ⟨fun s hp hl id => answerable_of_reset_ports _ _ hp hl, .inl ⟨.pf, rfl, rfl⟩, ?_,
    .inr ⟨fun p => ?_, rfl⟩, ?_⟩
  · rintro (⟨p, hp, h⟩ | ⟨h, _⟩)
    · revert h
      cases p <;> decide
    · exact h .pf rfl
  · cases p <;> decide
  · rintro (⟨p, hp, h⟩ | ⟨_, h⟩)
    · revert hp
      cases p <;> decide
    · revert h
      decide

/-- A complete program and a full incomplete one behind it; a queue of sixteen; a fitting tail of none. -/
theorem witness_ProgramRequestsChangeTheQueue :
    (∀ g ∈ List.replicate 12 seg3, g.last = false) ∧
      (∀ g, [seg1, seg2].getLast? = some g → g.last = true) ∧
      (∀ h, (List.replicate 12 seg3).head? = some h → h.program = (255#8).toNat) ∧
      (∃ h, (List.replicate 12 seg3).head? = some h ∧ h.program ≠ (1#8).toNat) ∧
      16 ≤ (List.replicate 16 seg2).length ∧ ([seg1, seg2] ++ List.replicate 12 seg3).length < 16 ∧
      (∀ q : ProgramQueue, ∀ c, Answerable { inRun with queue := q } .pv c) ∧
      permitted (withParam inRun Param.grant 2) .ps .abortProgram = true := by
  refine ⟨by decide, ?_, ?_, ⟨seg3, rfl, by decide⟩, by decide, by decide,
    fun q c => answerable_of_reset_ports _ c rfl rfl, by decide +kernel⟩
  · intro g h
    obtain rfl : seg2 = g := by simpa using h
    rfl
  · intro h hh
    obtain rfl : seg3 = h := by simpa using hh
    rfl

/-- A full table of eight. -/
def fullTable : State :=
  { inRun with table := (List.range 8).map fun k => ⟨k + 1, .totalCap, 16000, 1000⟩ }

theorem witness_InterveneReplacesOrInserts :
    Answerable fullTable .ps (.intervene .ps 0#8 9#8 0#8 2#8 0#16 0#16) ∧ TableWf fullTable.table ∧
      ¬ (fullTable.table.length < 8 ∨ ∃ x ∈ fullTable.table, x.id = (9#8).toNat) ∧
      (∃ x ∈ fullTable.table, x.id = (8#8).toNat) := by
  refine ⟨answerable_of_reset_ports _ _ rfl rfl, ?_, by decide, by decide⟩
  unfold TableWf
  decide +kernel

theorem witness_ReleaseRemovesItsEntry :
    (∀ id, Answerable fullTable .ps (.release .ps 0#8 id)) ∧
      (∀ x ∈ fullTable.table, x.id ≠ (255#8).toNat) ∧ ∃ x ∈ fullTable.table, x.id = (1#8).toNat :=
  ⟨fun _ => answerable_of_reset_ports _ _ rfl rfl, by decide, by decide⟩

theorem witness_LifetimeExpiryAgesTheTable :
    busy.lines.reset = false ∧ busy.table.length = 2 := ⟨rfl, rfl⟩

/-- A deadline due; one that is expired ahead of its countdown, one already counted, and one that has not
come; a port whose fault is in force already. -/
theorem witness_DeadlineExpiryMakesThePortStale :
    deadlineDue (withDeadline inRun .pf ⟨.fresh, 0, false⟩) .pf = true ∧
      deadlineDue inRun .pf = false ∧
      (opened (withDeadline inRun .pf ⟨.fresh, 1, false⟩)).supervisor.armed = true ∧
      (opened (withDeadline inRun .pf ⟨.fresh, 1, false⟩)).supervisor.deadlines.get .pf =
        ⟨.fresh, 1, false⟩ ∧
      (opened (withDeadline inRun .pf ⟨.fresh, 1, false⟩)).instant.counted = false ∧
      (opened (after .periodExpiry (joining [.whole, .whole] inRun))).instant.counted = true ∧
      (opened inRun).supervisor.deadlines.get .pf = ⟨.fresh, 10, false⟩ ∧
      (inRun.faults.get .linkF).state = .clear ∧
      ((withFault inRun .linkF ⟨.latched, 0, false⟩).faults.get .linkF).state = .latched := by
  refine ⟨rfl, rfl, ?_, ?_, ?_, ?_, ?_, rfl, rfl⟩ <;> decide +kernel

/-- A computation in flight at period number 9, so that STATUS_DIV's default of 10 triggers status. -/
def computing : State :=
  { inRun with engine := { inRun.engine with inFlight := some case1, periodNumber := 9#16 } }

/-- No computation in flight and one; each order; a program that starts; a port counted ahead. -/
theorem witness_PeriodExpiryStartsAComputation :
    inRun.lines.reset = false ∧ (opened inRun).engine.inFlight = none ∧
      (opened computing).engine.inFlight = some case1 ∧ (timingOf inRun).order = .whole ∧
      (timingOf (joining [.firstNow] inRun)).order = .firstNow ∧
      (timingOf (joining [.secondNow] inRun)).order = .secondNow ∧
      (∃ g ∈ ({ inRun with queue := ⟨[seg2], .idle, 0, none⟩ } : State).queue.segments, g.last = true) ∧
      (busy.demand.propulsion = true ∧ (busy.faults.get .linkV).state ≠ .active) ∧
      (busy.supervisor.deadlines.get .ps).countedAhead = true := by
  refine ⟨rfl, ?_, ?_, rfl, rfl, rfl, ⟨seg2, by simp, rfl⟩, ?_, rfl⟩ <;> decide +kernel

theorem witness_CompletionPublishesTheComputation :
    computing.lines.reset = false ∧ (opened computing).engine.inFlight = some case1 ∧
      (opened inRun).engine.inFlight = none ∧
      (opened computing).lines.fault =
        faultLineLevel (opened computing).params (opened computing).faults := by
  refine ⟨rfl, ?_, ?_, ?_⟩ <;> decide +kernel

theorem settled_computing : Settled computing :=
  settled_of_reset_ports rfl rfl rfl rfl fun p => by cases p <;> rfl

/-- A rear slip that qualifies at this completion, off the cadence. -/
def slipping : State :=
  { withFault computing .slipR ⟨.pending, 499, true⟩ with
    engine := { computing.engine with
      inFlight := some { case1 with corr := ⟨0, 300⟩ }
      periodNumber := 5#16 } }

/-- The cadence of period 10; a slip fault's entry with no cadence; a busy line of PF. -/
theorem witness_CompletionSendsAxleCommands :
    (opened computing).engine.inFlight = some case1 ∧ Settled computing ∧ Alone computing ∧
      (computing.engine.periodNumber + 1#16).toNat % case1.params.read Param.statusDiv = 0 ∧
      (((opened slipping).faults.get .slipR).state.inForce = false ∧
        ((completeInFlight (opened slipping)).faults.get .slipR).state.inForce = true ∧
        ((completeInFlight (opened slipping)).port .pv).sticky.faults.slipR = true) ∧
      (computing.port .pf).sending = none ∧ (commanding.port .pf).sending ≠ none := by
  refine ⟨by decide +kernel, settled_computing, alone_of_no_timing rfl, ?_, ?_, rfl, ?_⟩ <;>
    decide +kernel

theorem witness_CompletionAdvancesTheSegment :
    case1.program = none ∧ busy.queue.segments = seg1 :: [seg2, seg3] ∧
      busy.queue.state = .running ∧ seg1.duration ≤ busy.queue.headCount + 1 ∧ seg1.last = false ∧
      busy.queue.headCount + 1 < seg2.duration ∧ seg2.last = true ∧
      ({ case1 with program := some ⟨seg1, 0, none⟩ } : Inputs).program = some ⟨seg1, 0, none⟩ := by
  refine ⟨rfl, rfl, rfl, ?_, rfl, ?_, rfl, rfl⟩ <;> decide

theorem witness_DemandStageFollowsItsCases :
    (case4 0 0).faults.linkV = .active ∧ (case4 0 0).mode = .run ∧
      (case4 0 0).demand.propulsion = true ∧ case1.faults.linkV ≠ .active ∧
      (case1.constraints.filter (fun e => e.1 == .totalCap)) = [] := ⟨rfl, rfl, rfl, by decide, by decide⟩

theorem witness_ReferenceSelectionFollowsItsRule :
    (case1.reference.present = true ∧ case1.reference.valid = true ∧ case1.faults.linkS ≠ .active) ∧
      (readInputs inRun).reference.present = false ∧
      (∀ a, available (readInputs inRun) a = false) ∧ ∀ a, available case1 a = true := by
  refine ⟨⟨rfl, rfl, by decide⟩, rfl, fun a => ?_, fun a => ?_⟩ <;> cases a <;> rfl

/-- The worked slips of spec 02 and a slip that the bound of 2000 holds. -/
theorem witness_SlipGovernorRaisesAndDecays :
    slipRatio 200 20 30 = 2000 ∧
    available case1 .rear = true ∧ available (readInputs inRun) .front = false ∧
      (paramDefaults.read Param.sTgt : Int) < slipRatio 171 150 30 ∧
      slipRatio 162 150 30 ≤ (paramDefaults.read Param.sTgt : Int) ∧
      1 ≤ paramDefaults.read Param.kDn := by
  refine ⟨?_, rfl, rfl, ?_, ?_, ?_⟩ <;> decide +kernel

theorem witness_InterpolationStaysBetweenItsCells :
    (∀ a b : Fin 8, a < b → paramDefaults.read (Param.speedBp a) < paramDefaults.read (Param.speedBp b)) ∧
      (∀ a b : Fin 8, a < b →
        paramDefaults.read (Param.demandBp a) < paramDefaults.read (Param.demandBp b)) ∧
      axisPosition (speedBps paramDefaults) 1600 = (7, 0) ∧
      axisPosition (speedBps (paramDefaults.write 1 50)) 20 = (0, 0) := by
  decide +kernel

theorem witness_ProgramShareReachesItsTarget :
    seg2.shape = .ramp ∧ 1 ≤ seg2.duration ∧ seg1.shape = .step ∧ segmentShare seg2 655 4000 = 1000 ∧
      case1.program = none ∧
      (computeSplit { case1 with program := some ⟨seg3, 9, none⟩ }).sBase = 500 := by
  decide +kernel

theorem witness_AxleLimitIsTheSmallestBound :
    available (readInputs inRun) .front = false ∧ available case1 .rear = true ∧
      (Constraint.axleCap .rear, 2800) ∈ case1.constraints ∧
      stallCaps { case1 with faults := case1.faults.set .stallR .latched } .rear = true := by
  decide +kernel

theorem witness_SplitLosesNoTorque : rearPart (-1001) 333 = -333 ∧ frontPart (-1001) 333 = -668 := by
  decide

theorem witness_RedistributionFollowsTheClamp :
    let r := computeSplit case1
    0 < mag (rearPart r.dUsed r.sFinal) - min (mag (rearPart r.dUsed r.sFinal)) r.limit.rear ∧
      mag r.dUsed ≤ 16000 := by
  decide +kernel

/-- One axle saturated, both saturated with an excess on each, and no demand. -/
theorem witness_RedistributionFollowsTheClamp_flags :
    (computeSplit case1).flags.satR = true ∧ (computeSplit (readInputs inRun)).dUsed = 0 ∧
      (let r := computeSplit { case1 with
        axles := ⟨⟨.reporting, 100, 100, 152, true⟩, ⟨.reporting, 100, 100, 171, true⟩⟩ }
      r.flags.satF = true ∧ r.flags.satR = true ∧ r.shortfall = 4800) := by
  decide +kernel

theorem witness_ShareCompositionBoundsTheShare :
    let x := { case1 with constraints := [(.shareFloor, 1000), (.shareCeil, 999)] }
    (∀ e ∈ x.constraints, e.1 = .shareFloor → e.2 ≤ 1000) ∧
      (computeSplit x).flags.conflict = true := by
  decide +kernel

theorem witness_RequestedTorquesStayWithinLimits :
    available (readInputs inRun) .front = false ∧ available (readInputs inRun) .rear = false :=
  ⟨rfl, rfl⟩

theorem witness_RateLimitBoundsTheRise :
    riseHeld 40 2150 2200 = true ∧ riseHeld 40 2800 2800 = false ∧ rateLimited 40 380 (-330) = -40 := by
  decide

end Sys2Proof.Tests.Slice0
end

section
/-! PROOFS, spec 02: the stages of the split computation. First the rules about magnitudes and signs, about
the lists of constraint values and about each stage; then the obligations, each assembled from the rules of
its stages. -/
namespace Sys2Proof.Machine

/-! Magnitudes and signs. -/

theorem mag_nonneg (x : Int) : 0 ≤ mag x := Int.natCast_nonneg _

@[simp] theorem mag_zero : mag 0 = 0 := rfl

/-- A magnitude given the sign of `d` keeps its size, where it is 0 for `d = 0`. -/
theorem mag_sign_mul {d n : Int} (h0 : 0 ≤ n) (hn : n ≤ mag d) : mag (d.sign * n) = n := by
  by_cases hd : d = 0
  · subst hd
    simpa using le_antisymm h0 hn
  · unfold mag
    rw [Int.natAbs_mul, Int.natAbs_sign_of_ne_zero hd, one_mul]
    exact Int.natAbs_of_nonneg h0

theorem sign_sign_mul_of_pos (d : Int) {n : Int} (h : 0 < n) : (d.sign * n).sign = d.sign := by
  rw [Int.sign_mul, Int.sign_sign, Int.sign_eq_one_of_pos h, mul_one]

theorem sign_mul_eq_zero_or_sign (d : Int) {n : Int} (h : 0 ≤ n) :
    d.sign * n = 0 ∨ (d.sign * n).sign = d.sign := by
  rcases h.eq_or_lt with rfl | hpos
  · exact .inl (mul_zero _)
  · exact .inr (sign_sign_mul_of_pos d hpos)

/-! A part of a demand lies between 0 and the demand; the remainder is then a part of it too. -/

theorem sub_mem_uIcc_zero {p d : Int} (h : p ∈ Set.uIcc 0 d) : d - p ∈ Set.uIcc 0 d := by
  rw [Set.mem_uIcc] at *
  omega

theorem mag_le_of_mem_uIcc {p d : Int} (h : p ∈ Set.uIcc 0 d) : mag p ≤ mag d := by
  rw [Set.mem_uIcc] at h
  unfold mag
  omega

theorem sign_of_mem_uIcc {p d : Int} (h : p ∈ Set.uIcc 0 d) : p = 0 ∨ p.sign = d.sign := by
  rcases lt_trichotomy p 0 with hneg | hzero | hpos
  · have hd : d < 0 := by rw [Set.mem_uIcc] at h; omega
    exact .inr ((Int.sign_eq_neg_one_of_neg hneg).trans (Int.sign_eq_neg_one_of_neg hd).symm)
  · exact .inl hzero
  · have hd : 0 < d := by rw [Set.mem_uIcc] at h; omega
    exact .inr ((Int.sign_eq_one_of_pos hpos).trans (Int.sign_eq_one_of_pos hd).symm)

theorem mag_add_mag_sub_of_mem_uIcc {p d : Int} (h : p ∈ Set.uIcc 0 d) :
    mag p + mag (d - p) = mag d := by
  rw [Set.mem_uIcc] at h
  unfold mag
  omega

/-! The values of a constraint, and the bound that a list of them gives. -/

@[simp] theorem mem_constraintValues {x : Inputs} {c : Constraint} {v : Nat} :
    v ∈ constraintValues x c ↔ (c, v) ∈ x.constraints := by
  simp [constraintValues]

/-- A fold that keeps one of its two arguments ends with the initial value or with an entry. -/
theorem foldr_eq_init_or_mem {α : Type} {op : α → α → α} (hop : ∀ a b, op a b = a ∨ op a b = b)
    (b : α) (l : List α) : l.foldr op b = b ∨ l.foldr op b ∈ l := by
  induction l with
  | nil => exact .inl rfl
  | cons a l ih =>
    rw [List.foldr_cons]
    rcases hop a (l.foldr op b) with h | h
    · rw [h]
      exact .inr List.mem_cons_self
    · rw [h]
      exact ih.imp_right (List.mem_cons_of_mem a)

theorem foldr_min_le_init (b : Nat) (l : List Nat) : l.foldr min b ≤ b := by
  induction l with
  | nil => exact le_rfl
  | cons a l ih => exact (min_le_right _ _).trans ih

theorem le_shareFloor {x : Inputs} {v : Nat} (h : (Constraint.shareFloor, v) ∈ x.constraints) :
    v ≤ shareFloor x :=
  List.le_max_of_le' 0 (mem_constraintValues.2 h) le_rfl

theorem shareFloor_eq_zero_or_mem (x : Inputs) :
    shareFloor x = 0 ∨ (Constraint.shareFloor, shareFloor x) ∈ x.constraints :=
  (foldr_eq_init_or_mem max_choice 0 _).imp_right mem_constraintValues.1

theorem shareCeil_le {x : Inputs} {v : Nat} (h : (Constraint.shareCeil, v) ∈ x.constraints) :
    shareCeil x ≤ v :=
  List.min_le_of_le' Config.fullShare (mem_constraintValues.2 h) le_rfl

theorem shareCeil_le_fullShare (x : Inputs) : shareCeil x ≤ 1000 := foldr_min_le_init _ _

theorem shareCeil_eq_fullShare_or_mem (x : Inputs) :
    shareCeil x = 1000 ∨ (Constraint.shareCeil, shareCeil x) ∈ x.constraints :=
  (foldr_eq_init_or_mem min_choice Config.fullShare _).imp_right mem_constraintValues.1

/-! Availability and the reference speed. -/

theorem available_iff (x : Inputs) (a : Axle) :
    available x a = true ↔ (x.axles.get a).state = .reporting ∧ (x.axles.get a).ready = true ∧
      x.faults.get (axleLink a) ≠ .latched := by
  simp [available, and_assoc]

theorem referenceUsable_iff (x : Inputs) :
    referenceUsable x = true ↔ x.reference.present = true ∧ x.reference.valid = true ∧
      x.faults.linkS ≠ .active := by
  simp [referenceUsable, Inputs.linkSActive, and_assoc]

theorem fallbackReference_of_none {x : Inputs} (h : ∀ a, available x a = false) (d : Int) :
    fallbackReference x d = 0 := by
  simp [fallbackReference, h]

/-- With an axle available the fallback is the speed of one, whose σ′ × v is least among the available. -/
theorem fallbackReference_is_least {x : Inputs} (h : ∃ a, available x a = true) (d : Int) :
    ∃ b, available x b = true ∧ fallbackReference x d = axleSpeed x b ∧
      ∀ a, available x a = true → fallbackSign d * axleSpeed x b ≤ fallbackSign d * axleSpeed x a := by
  unfold fallbackReference
  cases hf : available x .front <;> cases hr : available x .rear
  case false.false =>
    obtain ⟨a, ha⟩ := h
    cases a <;> simp_all
  case false.true => exact ⟨.rear, hr, rfl, fun a ha => by cases a <;> simp_all⟩
  case true.false => exact ⟨.front, hf, rfl, fun a ha => by cases a <;> simp_all⟩
  case true.true =>
    simp only [if_true]
    split
    case isTrue hle => exact ⟨.front, hf, rfl, fun a _ => by cases a; exacts [le_rfl, hle]⟩
    case isFalse hlt =>
      exact ⟨.rear, hr, rfl, fun a _ => by cases a; exacts [(not_le.1 hlt).le, le_rfl]⟩

theorem fallbackRefFlag_iff (x : Inputs) :
    (computeSplit x).flags.fallbackRef = true ↔ ¬ referenceUsable x = true := by
  have hflag : (computeSplit x).flags.fallbackRef = !(referenceUsable x) := rfl
  simp [hflag]

/-! The share composition (R30, R31). -/

theorem clampInt_eq_max_min {lo hi : Int} (h : lo ≤ hi) (x : Int) :
    clampInt lo hi x = max lo (min hi x) := by
  unfold clampInt
  split <;> [skip; split] <;> omega

theorem correctedShare_eq (sBase cF cR : Int) :
    correctedShare sBase cF cR = max 0 (min 1000 (sBase - cR + cF)) :=
  clampInt_eq_max_min (by decide) _

theorem finalShare_mem_range (x : Inputs) {s1 : Int} (h : 0 ≤ s1) :
    0 ≤ finalShare x s1 ∧ finalShare x s1 ≤ 1000 := by
  have hceil := shareCeil_le_fullShare x
  unfold finalShare
  omega

theorem computeSplit_sFinal (x : Inputs) : (computeSplit x).sFinal =
    finalShare x (max 0 (min 1000 ((computeSplit x).sBase - (computeSplit x).corr.rear
      + (computeSplit x).corr.front))) := by
  rw [← correctedShare_eq]
  rfl

theorem conflictFlag_iff (x : Inputs) :
    (computeSplit x).flags.conflict = true ↔ shareCeil x < shareFloor x :=
  decide_eq_true_iff

theorem sFinal_mem_range (x : Inputs) :
    0 ≤ (computeSplit x).sFinal ∧ (computeSplit x).sFinal ≤ 1000 := by
  rw [computeSplit_sFinal]
  exact finalShare_mem_range x (le_max_left _ _)

/-! The split (R34). -/

theorem rearPart_neg (d s : Int) : rearPart (-d) s = -rearPart d s := by
  simp [rearPart, truncDiv, Int.neg_tdiv]

theorem frontPart_neg (d s : Int) : frontPart (-d) s = -frontPart d s := by
  simp only [frontPart, rearPart_neg]
  omega

theorem rearPart_mem_of_nonneg {d s : Int} (hd : 0 ≤ d) (h0 : 0 ≤ s) (h1 : s ≤ 1000) :
    0 ≤ rearPart d s ∧ rearPart d s ≤ d := by
  have hlo : 0 ≤ d * s := mul_nonneg hd h0
  have hhi : d * s ≤ d * 1000 := mul_le_mul_of_nonneg_left h1 hd
  rw [rearPart, truncDiv, Int.tdiv_eq_ediv_of_nonneg hlo]
  omega

theorem rearPart_mem_uIcc (d : Int) {s : Int} (h0 : 0 ≤ s) (h1 : s ≤ 1000) :
    rearPart d s ∈ Set.uIcc 0 d := by
  rw [Set.mem_uIcc]
  rcases le_total 0 d with hd | hd
  · exact .inl (rearPart_mem_of_nonneg hd h0 h1)
  · have hneg := rearPart_mem_of_nonneg (neg_nonneg.2 hd) h0 h1
    rw [rearPart_neg] at hneg
    omega

/-- The two parts of a computation's demand have its magnitude together. -/
theorem mag_parts (x : Inputs) :
    mag (rearPart (computeSplit x).dUsed (computeSplit x).sFinal) +
      mag (frontPart (computeSplit x).dUsed (computeSplit x).sFinal) =
        mag (computeSplit x).dUsed := by
  obtain ⟨h0, h1⟩ := sFinal_mem_range x
  exact mag_add_mag_sub_of_mem_uIcc (rearPart_mem_uIcc _ h0 h1)

/-! Clamp and redistribution (R35). -/

/-- The magnitude an axle is requested: its own part clamped to its limit, and of the other axle's excess
what its headroom takes. -/
def requestedMag (own limit other otherLimit : Int) : Int :=
  min own limit + min (other - min other otherLimit) (limit - min own limit)

theorem requestedMag_nonneg {own limit : Int} (h0 : 0 ≤ own) (hl : 0 ≤ limit)
    (other otherLimit : Int) : 0 ≤ requestedMag own limit other otherLimit := by
  unfold requestedMag
  omega

theorem requestedMag_le_limit (own limit other otherLimit : Int) :
    requestedMag own limit other otherLimit ≤ limit := by
  unfold requestedMag
  omega

theorem requestedMag_add_le (own limit other otherLimit : Int) :
    requestedMag own limit other otherLimit + requestedMag other otherLimit own limit ≤
      own + other := by
  unfold requestedMag
  omega

theorem requestedMag_of_limit_le {own limit : Int} (h : limit ≤ own) (other otherLimit : Int) :
    requestedMag own limit other otherLimit = limit := by
  unfold requestedMag
  omega

/-- An axle with an excess of its own takes nothing of the other's. -/
theorem requestedMag_of_excess {own limit : Int} (h : 0 < own - min own limit)
    (other otherLimit : Int) : requestedMag own limit other otherLimit = min own limit := by
  unfold requestedMag
  omega

theorem headroom_eq_zero_of_excess {own limit : Int} (h : 0 < own - min own limit) :
    limit - min own limit = 0 := by
  omega

/-! The limits and the requested torques of a computation, axle by axle. -/

/-- The axle that is offered an excess of this one (R35). -/
def otherAxle : Axle → Axle
  | .front => .rear
  | .rear => .front

/-- The part of the demand that the split gives an axle (R34). -/
def splitPart (r : SplitResult) : Axle → Int
  | .front => frontPart r.dUsed r.sFinal
  | .rear => rearPart r.dUsed r.sFinal

/-- The magnitude a computation requests of an axle, before the sign of D_used. -/
def splitMag (r : SplitResult) (a : Axle) : Int :=
  requestedMag (mag (splitPart r a)) (r.limit.get a) (mag (splitPart r (otherAxle a)))
    (r.limit.get (otherAxle a))

theorem computeSplit_limit (x : Inputs) (a : Axle) :
    (computeSplit x).limit.get a = (axleLimit x a (computeSplit x).dUsed : Int) := by
  cases a <;> rfl

theorem computeSplit_request (x : Inputs) (a : Axle) :
    (computeSplit x).request.get a =
      (computeSplit x).dUsed.sign * splitMag (computeSplit x) a := by
  cases a <;> rfl

theorem limit_nonneg (x : Inputs) (a : Axle) : 0 ≤ (computeSplit x).limit.get a := by
  rw [computeSplit_limit]
  exact Int.natCast_nonneg _

theorem axleLimit_of_unavailable {x : Inputs} {a : Axle} (h : available x a = false) (d : Int) :
    axleLimit x a d = 0 := by
  have hbase : baseLimit x a d = 0 := by simp [baseLimit, h]
  exact Nat.le_zero.1 (hbase ▸ foldr_min_le_init _ _)

theorem limit_of_unavailable {x : Inputs} {a : Axle} (h : available x a = false) :
    (computeSplit x).limit.get a = 0 := by
  rw [computeSplit_limit, axleLimit_of_unavailable h]
  rfl

theorem splitMag_nonneg (x : Inputs) (a : Axle) : 0 ≤ splitMag (computeSplit x) a :=
  requestedMag_nonneg (mag_nonneg _) (limit_nonneg x a) _ _

theorem splitMag_le_limit (r : SplitResult) (a : Axle) : splitMag r a ≤ r.limit.get a :=
  requestedMag_le_limit _ _ _ _

theorem splitMag_add_le (x : Inputs) :
    splitMag (computeSplit x) .front + splitMag (computeSplit x) .rear ≤
      mag (computeSplit x).dUsed := by
  rw [← mag_parts, add_comm (mag _)]
  exact requestedMag_add_le _ _ _ _

theorem splitMag_le_mag_dUsed (x : Inputs) (a : Axle) :
    splitMag (computeSplit x) a ≤ mag (computeSplit x).dUsed := by
  have hsum := splitMag_add_le x
  have hf := splitMag_nonneg x .front
  have hr := splitMag_nonneg x .rear
  cases a <;> omega

theorem mag_request (x : Inputs) (a : Axle) :
    mag ((computeSplit x).request.get a) = splitMag (computeSplit x) a := by
  rw [computeSplit_request]
  exact mag_sign_mul (splitMag_nonneg x a) (splitMag_le_mag_dUsed x a)

theorem mag_request_front (x : Inputs) :
    mag (computeSplit x).request.front = splitMag (computeSplit x) .front := mag_request x .front

theorem mag_request_rear (x : Inputs) :
    mag (computeSplit x).request.rear = splitMag (computeSplit x) .rear := mag_request x .rear

theorem request_eq_zero_or_sign (x : Inputs) (a : Axle) :
    (computeSplit x).request.get a = 0 ∨
      ((computeSplit x).request.get a).sign = (computeSplit x).dUsed.sign := by
  rw [computeSplit_request]
  exact sign_mul_eq_zero_or_sign _ (splitMag_nonneg x a)

theorem splitMag_of_unavailable {x : Inputs} {a : Axle} (h : available x a = false) :
    splitMag (computeSplit x) a = 0 :=
  le_antisymm ((splitMag_le_limit _ a).trans_eq (limit_of_unavailable h)) (splitMag_nonneg x a)

theorem request_of_unavailable {x : Inputs} {a : Axle} (h : available x a = false) :
    (computeSplit x).request.get a = 0 := by
  rw [computeSplit_request, splitMag_of_unavailable h, mul_zero]

/-- With the other axle unavailable its whole part is the excess offered. -/
theorem splitMag_of_other_unavailable {x : Inputs} {a : Axle}
    (h : available x (otherAxle a) = false) :
    splitMag (computeSplit x) a =
      min (mag (splitPart (computeSplit x) a)) ((computeSplit x).limit.get a) +
        min (mag (splitPart (computeSplit x) (otherAxle a)))
          ((computeSplit x).limit.get a -
            min (mag (splitPart (computeSplit x) a)) ((computeSplit x).limit.get a)) := by
  rw [splitMag, requestedMag, limit_of_unavailable h, min_eq_right (mag_nonneg _), sub_zero]

/-! The shortfall and the flags of stage 8 (R35, R37). -/

theorem computeSplit_shortfall (x : Inputs) :
    (computeSplit x).shortfall = mag (computeSplit x).dUsed -
      splitMag (computeSplit x) .front - splitMag (computeSplit x) .rear := rfl

theorem shortfall_nonneg (x : Inputs) : 0 ≤ (computeSplit x).shortfall := by
  have hsum := splitMag_add_le x
  rw [computeSplit_shortfall]
  omega

theorem shortfall_le (x : Inputs) : (computeSplit x).shortfall ≤ mag (computeSplit x).dUsed := by
  have hf := splitMag_nonneg x .front
  have hr := splitMag_nonneg x .rear
  rw [computeSplit_shortfall]
  omega

/-- The saturation flag of an axle. -/
def satFlag (r : SplitResult) : Axle → Bool
  | .front => r.flags.satF
  | .rear => r.flags.satR

theorem satFlag_iff (x : Inputs) (a : Axle) :
    satFlag (computeSplit x) a = true ↔ splitPart (computeSplit x) a ≠ 0 ∧
      (computeSplit x).limit.get a ≤ mag (splitPart (computeSplit x) a) := by
  have hflag : satFlag (computeSplit x) a = (splitPart (computeSplit x) a != 0 &&
      decide ((computeSplit x).limit.get a ≤ mag (splitPart (computeSplit x) a))) := by
    cases a <;> rfl
  simp [hflag]

theorem redistFlag_iff (x : Inputs) : (computeSplit x).flags.redist = true ↔
    min (mag (splitPart (computeSplit x) .front)) (computeSplit x).limit.front <
        splitMag (computeSplit x) .front ∨
      min (mag (splitPart (computeSplit x) .rear)) (computeSplit x).limit.rear <
        splitMag (computeSplit x) .rear := by
  have hflag : (computeSplit x).flags.redist =
      (decide (min (mag (splitPart (computeSplit x) .front)) (computeSplit x).limit.front <
          splitMag (computeSplit x) .front) ||
        decide (min (mag (splitPart (computeSplit x) .rear)) (computeSplit x).limit.rear <
          splitMag (computeSplit x) .rear)) := rfl
  simp only [hflag, Bool.or_eq_true, decide_eq_true_eq]

theorem shortfallFlag_iff (x : Inputs) : (computeSplit x).flags.shortfall = true ↔
    splitMag (computeSplit x) .front + splitMag (computeSplit x) .rear <
      mag (computeSplit x).dUsed := by
  have hflag : (computeSplit x).flags.shortfall =
      decide (splitMag (computeSplit x) .front + splitMag (computeSplit x) .rear <
        mag (computeSplit x).dUsed) := rfl
  rw [hflag, decide_eq_true_eq]

theorem splitMag_of_satFlag {x : Inputs} {a : Axle} (h : satFlag (computeSplit x) a = true) :
    splitMag (computeSplit x) a = (computeSplit x).limit.get a :=
  requestedMag_of_limit_le ((satFlag_iff x a).1 h).2 _ _

theorem splitPart_of_dUsed_zero {r : SplitResult} (h : r.dUsed = 0) (a : Axle) :
    splitPart r a = 0 := by
  cases a <;> simp [splitPart, frontPart, rearPart, truncDiv, h]

theorem splitMag_of_dUsed_zero {x : Inputs} (h : (computeSplit x).dUsed = 0) (a : Axle) :
    splitMag (computeSplit x) a = 0 := by
  have hle := splitMag_le_mag_dUsed x a
  rw [h, mag_zero] at hle
  exact le_antisymm hle (splitMag_nonneg x a)

theorem satFlag_of_dUsed_zero {x : Inputs} (h : (computeSplit x).dUsed = 0) (a : Axle) :
    satFlag (computeSplit x) a = false :=
  Bool.eq_false_iff.2 fun hs => ((satFlag_iff x a).1 hs).1 (splitPart_of_dUsed_zero h a)

theorem redistFlag_of_dUsed_zero {x : Inputs} (h : (computeSplit x).dUsed = 0) :
    (computeSplit x).flags.redist = false := by
  have hf : 0 ≤ (computeSplit x).limit.front := limit_nonneg x .front
  have hr : 0 ≤ (computeSplit x).limit.rear := limit_nonneg x .rear
  rw [Bool.eq_false_iff, ne_eq, redistFlag_iff]
  simp [splitPart_of_dUsed_zero h, splitMag_of_dUsed_zero h, hf, hr]

theorem shortfallFlag_of_dUsed_zero {x : Inputs} (h : (computeSplit x).dUsed = 0) :
    (computeSplit x).flags.shortfall = false := by
  rw [Bool.eq_false_iff, ne_eq, shortfallFlag_iff]
  simp [splitMag_of_dUsed_zero h, h]

/-! The rate limit (R38, R39). -/

theorem riseFrom_add_eq (rise : Nat) (prev req : Int) :
    riseFrom prev req + (rise : Int) =
      if prev ≠ 0 ∧ prev.sign = req.sign then mag prev + (rise : Int) else (rise : Int) := by
  unfold riseFrom
  split <;> simp

theorem riseFrom_nonneg (prev req : Int) : 0 ≤ riseFrom prev req := by
  unfold riseFrom
  split
  exacts [mag_nonneg _, le_rfl]

/-- A request on the side of the previous command that is no larger is within the bound. -/
theorem mag_le_riseFrom {prev req : Int} (hs : prev.sign = req.sign) (hm : mag req ≤ mag prev) :
    mag req ≤ riseFrom prev req := by
  by_cases hp : prev = 0
  · subst hp
    simpa [riseFrom] using hm
  · simpa [riseFrom, hp, hs] using hm

theorem riseHeld_iff (rise : Nat) (prev req : Int) :
    riseHeld rise prev req = true ↔ riseFrom prev req + (rise : Int) < mag req :=
  decide_eq_true_iff

theorem rateLimited_of_held {rise : Nat} {prev req : Int} (h : riseHeld rise prev req = true) :
    rateLimited rise prev req = req.sign * (riseFrom prev req + (rise : Int)) :=
  if_pos ((riseHeld_iff ..).1 h)

theorem rateLimited_of_not_held {rise : Nat} {prev req : Int}
    (h : riseHeld rise prev req = false) : rateLimited rise prev req = req :=
  if_neg (of_decide_eq_false h)

theorem mag_rateLimited_of_held {rise : Nat} {prev req : Int} (h : riseHeld rise prev req = true) :
    mag (rateLimited rise prev req) = riseFrom prev req + (rise : Int) := by
  have hfrom := riseFrom_nonneg prev req
  rw [rateLimited_of_held h]
  exact mag_sign_mul (by omega) ((riseHeld_iff ..).1 h).le

theorem mag_rateLimited_le (rise : Nat) (prev req : Int) :
    mag (rateLimited rise prev req) ≤ mag req := by
  cases h : riseHeld rise prev req
  case true => exact (mag_rateLimited_of_held h).trans_le ((riseHeld_iff ..).1 h).le
  case false => rw [rateLimited_of_not_held h]

theorem rateLimited_eq_zero_or_sign (rise : Nat) (prev req : Int) :
    rateLimited rise prev req = 0 ∨ (rateLimited rise prev req).sign = req.sign := by
  have hfrom := riseFrom_nonneg prev req
  cases h : riseHeld rise prev req
  case true =>
    rw [rateLimited_of_held h]
    exact sign_mul_eq_zero_or_sign req (by omega)
  case false => exact .inr (by rw [rateLimited_of_not_held h])

/-- A command held back at a bound other than 0 has the request's sign. -/
theorem sign_rateLimited_of_held {rise : Nat} {prev req : Int} (h : riseHeld rise prev req = true) :
    (rateLimited rise prev req).sign = req.sign ∨ riseFrom prev req + (rise : Int) = 0 := by
  refine (rateLimited_eq_zero_or_sign rise prev req).symm.imp_right fun h0 => ?_
  rw [← mag_rateLimited_of_held h, h0, mag_zero]

/-! The obligations of this family. -/

/-- Settles O51: the fallback is the least speed in the direction of σ′ over the available axles. -/
theorem referenceSelectionFollowsItsRule : Obligations.ReferenceSelectionFollowsItsRule := by
  intro x d
  dsimp only
  rw [← referenceUsable_iff]
  refine ⟨fun hu => if_pos hu, fun hu hnone => ?_, fun hu a ha => ?_,
    fallbackRefFlag_iff x, available_iff x⟩
  · exact (if_neg hu).trans (fallbackReference_of_none hnone d)
  · obtain ⟨b, hb, hspeed, hleast⟩ := fallbackReference_is_least ⟨a, ha⟩ d
    have hv : referenceSpeed x d = axleSpeed x b := (if_neg hu).trans hspeed
    exact ⟨⟨b, hb, hv⟩, hv ▸ hleast a ha⟩

/-- Settles O55: the floor and the ceiling are the folds of the model over the entries. -/
theorem shareCompositionBoundsTheShare : Obligations.ShareCompositionBoundsTheShare := by
  intro x
  refine ⟨shareFloor x, shareCeil x, ?_, shareFloor_eq_zero_or_mem x, fun h => ?_, ?_,
    shareCeil_le_fullShare x, shareCeil_eq_fullShare_or_mem x, computeSplit_sFinal x,
    conflictFlag_iff x, sFinal_mem_range x⟩
  · rintro ⟨c, v⟩ he rfl
    exact le_shareFloor he
  · rcases shareFloor_eq_zero_or_mem x with h0 | hmem
    · omega
    · exact h _ hmem rfl
  · rintro ⟨c, v⟩ he rfl
    exact shareCeil_le he

/-- Settles O57: the rear part lies between 0 and D_used, and so does its remainder. -/
theorem splitLosesNoTorque : Obligations.SplitLosesNoTorque := by
  intro d s h0 h1
  have hrear := rearPart_mem_uIcc d h0 h1
  exact ⟨rfl, add_sub_cancel _ _, mag_le_of_mem_uIcc hrear, sign_of_mem_uIcc hrear,
    sign_of_mem_uIcc (sub_mem_uIcc_zero hrear), mag_add_mag_sub_of_mem_uIcc hrear,
    rearPart_neg d s, frontPart_neg d s⟩

/-- Settles O58: the requested magnitudes are those of `splitMag`, which carry the sign of D_used. -/
theorem redistributionFollowsTheClamp : Obligations.RedistributionFollowsTheClamp := by
  refine ⟨fun x => ?_, fun x => ?_⟩
  · exact ⟨computeSplit_request x .front, computeSplit_request x .rear,
      splitMag_le_limit _ .front, splitMag_le_limit _ .rear, headroom_eq_zero_of_excess,
      headroom_eq_zero_of_excess, fun her hef => ⟨requestedMag_of_excess hef _ _,
        requestedMag_of_excess her _ _⟩, computeSplit_shortfall x, shortfall_nonneg x,
      (shortfall_le x).trans⟩
  · dsimp only
    rw [mag_request_front, mag_request_rear]
    exact ⟨satFlag_iff x .front, satFlag_iff x .rear, redistFlag_iff x, shortfallFlag_iff x,
      computeSplit_shortfall x,
      splitMag_of_satFlag (a := .front), splitMag_of_satFlag (a := .rear),
      fun h => ⟨satFlag_of_dUsed_zero h .front, satFlag_of_dUsed_zero h .rear,
        redistFlag_of_dUsed_zero h, shortfallFlag_of_dUsed_zero h⟩⟩

/-- Settles O59: an unavailable axle has limit 0, so that all of its part is excess. -/
theorem requestedTorquesStayWithinLimits : Obligations.RequestedTorquesStayWithinLimits := by
  intro x
  dsimp only
  rw [mag_request_front, mag_request_rear]
  exact ⟨splitMag_le_limit _ .front, splitMag_le_limit _ .rear, splitMag_add_le x,
    request_eq_zero_or_sign x,
    fun h => ⟨limit_of_unavailable h, request_of_unavailable h,
      splitMag_of_other_unavailable (a := .rear) h⟩,
    fun h => ⟨limit_of_unavailable h, request_of_unavailable h,
      splitMag_of_other_unavailable (a := .front) h⟩⟩

/-- Settles O60: held back or not, by the comparison with the bound that `riseFrom` gives. -/
theorem rateLimitBoundsTheRise : Obligations.RateLimitBoundsTheRise := by
  refine ⟨fun rise prev req => ?_, fun x => ⟨rfl, rfl, rfl, rfl⟩⟩
  dsimp only
  rw [← riseFrom_add_eq]
  refine ⟨fun hover => ?_, fun hwithin => ?_, fun hsign hfall => ?_, mag_rateLimited_le ..,
    rateLimited_eq_zero_or_sign ..⟩
  · have hheld : riseHeld rise prev req = true := (riseHeld_iff ..).2 hover
    exact ⟨mag_rateLimited_of_held hheld, sign_rateLimited_of_held hheld, hheld⟩
  · have hfree : riseHeld rise prev req = false := decide_eq_false (not_lt.2 hwithin)
    exact ⟨rateLimited_of_not_held hfree, hfree⟩
  · have hwithin := mag_le_riseFrom hsign hfall
    exact rateLimited_of_not_held (decide_eq_false (by omega))

end Sys2Proof.Machine
end

section
/-! PROOFS, spec 04: the slip governor. First the rules about the directed slip and about one correction, then
the decay of a correction over several computations; the obligation is assembled from these rules. -/
namespace Sys2Proof.Machine

/-! The directed slip (R57). -/

theorem directedSlip_eq_zero {x : Inputs} {a : Axle} {d : Int} (h : available x a = false ∨ d = 0)
    (vr : Int) : directedSlip x a d vr = 0 :=
  if_pos (by simpa using h)

theorem directedSlip_of_available {x : Inputs} {a : Axle} {d : Int} (ha : available x a = true)
    (hd : d ≠ 0) (vr : Int) : directedSlip x a d vr =
      if 0 < d then slipRatio (x.axles.get a).speed vr (x.params.read Param.vFloor)
      else -slipRatio (x.axles.get a).speed vr (x.params.read Param.vFloor) :=
  if_neg (by simp [ha, hd])

/-! One correction (R58, R59). -/

theorem governed_of_le {ps : Params} {e : Int} (h : e ≤ (ps.read Param.sTgt : Int)) (c : Int) :
    governed ps c e = max 0 (c - (ps.read Param.kDn : Int)) :=
  if_neg (not_lt.2 h)

theorem governed_of_lt {ps : Params} {e : Int} (h : (ps.read Param.sTgt : Int) < e) (c : Int) :
    governed ps c e = min (ps.read Param.corrMax : Int)
      (c + slipStep (ps.read Param.kUp) (e - ps.read Param.sTgt)) :=
  if_pos h

/-- Above S_TGT the step truncates a nonnegative product, so that its division is the floor. -/
theorem slipStep_of_nonneg (kUp : Nat) {excess : Int} (h : 0 ≤ excess) :
    slipStep kUp excess = max 1 ((kUp : Int) * excess / 16) := by
  rw [slipStep, truncDiv, Int.tdiv_eq_ediv_of_nonneg (mul_nonneg (Int.natCast_nonneg _) h)]

/-! A correction left alone (R59). -/

/-- The lowerings by K_DN add up, since none of them goes below 0. -/
theorem repeat_governed_of_le {ps : Params} {e : Int} (h : e ≤ (ps.read Param.sTgt : Int))
    (c n : Nat) : Nat.repeat (fun y => governed ps y e) n (c : Int) =
      max 0 ((c : Int) - (n : Int) * (ps.read Param.kDn : Int)) := by
  induction n with
  | zero => simp [Nat.repeat]
  | succ n ih =>
    rw [Nat.repeat, ih, governed_of_le h, Nat.cast_succ, add_one_mul]
    omega

/-- trunc((c + K_DN − 1) / K_DN) is the ceiling of c / K_DN, so that many lowerings cover all of c. -/
theorem repeat_governed_eq_zero {ps : Params} {e : Int} (h : e ≤ (ps.read Param.sTgt : Int))
    (hk : 1 ≤ ps.read Param.kDn) (c : Nat) : Nat.repeat (fun y => governed ps y e)
      ((c + ps.read Param.kDn - 1) / ps.read Param.kDn) (c : Int) = 0 := by
  have hcover : c ≤ (c + ps.read Param.kDn - 1) / ps.read Param.kDn * ps.read Param.kDn := by
    rw [mul_comm]
    exact le_smul_ceilDiv (α := Nat) hk
  rw [repeat_governed_of_le h]
  exact max_eq_left (sub_nonpos.2 (by exact_mod_cast hcover))

/-! The corrections of a computation. -/

theorem governedCorr_of_directedSlip_le {x : Inputs} {a : Axle} {d vr : Int}
    (h : directedSlip x a d vr ≤ (x.params.read Param.sTgt : Int)) :
    governedCorr x a d vr = max 0 (x.corr.get a - (x.params.read Param.kDn : Int)) :=
  governed_of_le h _

theorem governedCorr_of_lt_directedSlip {x : Inputs} {a : Axle} {d vr : Int}
    (h : (x.params.read Param.sTgt : Int) < directedSlip x a d vr) :
    governedCorr x a d vr = min (x.params.read Param.corrMax : Int) (x.corr.get a +
      max 1 ((x.params.read Param.kUp : Int) *
        (directedSlip x a d vr - x.params.read Param.sTgt) / 16)) := by
  rw [governedCorr, governed_of_lt h, slipStep_of_nonneg _ (sub_nonneg.2 h.le)]

theorem computeSplit_corr (x : Inputs) (a : Axle) :
    (computeSplit x).corr.get a = governedCorr x a (computeSplit x).dUsed
      (referenceSpeed x (computeSplit x).dUsed) := by
  cases a <;> rfl

/-- Settles O52: the ratio is its definition; a slip of 0 is never above S_TGT, any other is compared with it. -/
theorem slipGovernorRaisesAndDecays : Obligations.SlipGovernorRaisesAndDecays := by
  refine ⟨fun v vr vf => rfl, fun x a d vr h => ?_, fun x a d vr ha hd => ?_,
    fun ps e c h hk => repeat_governed_eq_zero h hk c, computeSplit_corr⟩
  · refine governedCorr_of_directedSlip_le ?_
    rw [directedSlip_eq_zero h]
    exact Int.natCast_nonneg _
  · dsimp only
    rw [← directedSlip_of_available ha hd]
    exact ⟨governedCorr_of_directedSlip_le, governedCorr_of_lt_directedSlip⟩

end Sys2Proof.Machine
end

section
/-! PROOFS, spec 08: the segment-advance notice of a completion. First the rules about the notice, one per
case of R126, and about the queue that a completion leaves; the obligation is assembled from these rules. -/
namespace Sys2Proof.Machine

/-! The Program Queue takes a notice (R126). -/

theorem takeNotice_of_idle {q : ProgramQueue} (h : q.state = .idle) (share s0 : Int) :
    takeNotice share s0 q = q := by
  simp [takeNotice, h]

section Running
variable {q : ProgramQueue} {g : Segment} {rest : List Segment}

/-- Before its last computation the head segment stays and is counted; its start share is fixed. -/
theorem takeNotice_of_count_lt (hrun : q.state = .running) (hseg : q.segments = g :: rest)
    (hcount : q.headCount + 1 < g.duration) (share s0 : Int) :
    takeNotice share s0 q =
      { q with headCount := q.headCount + 1, startShare := some (q.startShare.getD s0) } := by
  simp [takeNotice, hrun, hseg, hcount]

/-- At its last computation a segment without END hands its share on to the next one. -/
theorem takeNotice_of_segment_end (hrun : q.state = .running) (hseg : q.segments = g :: rest)
    (hcount : g.duration ≤ q.headCount + 1) (hlast : g.last = false) (share s0 : Int) :
    takeNotice share s0 q = ⟨rest, .running, 0, some share⟩ := by
  simp [takeNotice, hrun, hseg, hcount, hlast]

/-- At its last computation a segment with END ends the program. -/
theorem takeNotice_of_program_end (hrun : q.state = .running) (hseg : q.segments = g :: rest)
    (hcount : g.duration ≤ q.headCount + 1) (hlast : g.last = true) (share s0 : Int) :
    takeNotice share s0 q = ⟨rest, .idle, 0, none⟩ := by
  simp [takeNotice, hrun, hseg, hcount, hlast]

end Running

/-! The queue that a completion leaves (R18). -/

theorem complete_queue_of_map {x : Inputs} (h : x.program = none) (s : State) :
    (complete x s).queue = s.queue := by
  rw [complete_queue, handNotice, h]

theorem complete_queue_of_program {x : Inputs} {pr : ProgramInput} (h : x.program = some pr)
    (s : State) : (complete x s).queue = takeNotice (computeSplit x).sBase
      (usedStartShare pr (computeSplit x).sMap) s.queue := by
  rw [complete_queue, handNotice, h, State.withQueue_queue]

/-- A notice taken while the queue is IDLE is discarded. -/
theorem complete_queue_of_idle {s : State} (h : s.queue.state = .idle) (x : Inputs) :
    (complete x s).queue = s.queue := by
  cases hp : x.program with
  | none => exact complete_queue_of_map hp s
  | some pr => rw [complete_queue_of_program hp, takeNotice_of_idle h]

/-! The command COMPLETION. -/

theorem completeInFlight_of_some {s : State} {x : Inputs} (h : s.engine.inFlight = some x) :
    completeInFlight s = complete x s := by
  rw [completeInFlight, h]

theorem exec_completion_of_released {s : State} (h : s.lines.reset = false) :
    exec .completion s = .next (closed s (completeInFlight (opened s))) := by
  simp [exec, execCompletion, whileReleased, event, h]

/-- Settles O49: a completion moves the queue by its notice alone, and R126 has one rule per case. -/
theorem completionAdvancesTheSegment : Obligations.CompletionAdvancesTheSegment := by
  intro s x hreleased hflight
  dsimp only
  rw [completeInFlight_of_some hflight]
  refine ⟨?_, ?_, fun pr g rest hprogram hrun hseg => ?_⟩
  · rw [exec_completion_of_released hreleased, completeInFlight_of_some hflight]
  · rintro (hmap | hidle)
    · exact complete_queue_of_map hmap _
    · exact complete_queue_of_idle hidle x
  · rw [complete_queue_of_program hprogram]
    exact ⟨fun hcount => takeNotice_of_count_lt hrun hseg hcount _ _,
      fun hcount hlast => takeNotice_of_segment_end hrun hseg hcount hlast _ _,
      fun hcount hlast => takeNotice_of_program_end hrun hseg hcount hlast _ _⟩

end Sys2Proof.Machine
end

section
/-! PROOFS, spec 09: the FAULT line. First R149's sentence against the level that the machine computes, then
the line after each transition of a fault and after each operation that causes one; the obligation is assembled
from these rules and the chain of operations in Laws/Steps. -/
namespace Sys2Proof.Machine

/-! The level of the line (R149). -/

theorem FaultState.inForce_iff (x : FaultState) : x.inForce = true ↔ x = .active ∨ x = .latched := by
  cases x <;> simp [FaultState.inForce]

theorem mem_allFaults (f : FaultId) : f ∈ allFaults := by
  cases f <;> simp [allFaults]

theorem faultLineLevel_iff (ps : Params) (fs : PerFault FaultRecord) :
    faultLineLevel ps fs = true ↔
      ∃ f, ((fs.get f).state = .active ∨ (fs.get f).state = .latched) ∧
        (ps.read Param.lineMask).testBit f.id = true := by
  simp [faultLineLevel, lineEnabled, mem_allFaults, FaultState.inForce_iff]

theorem faultLineAgrees_iff (s : State) : FaultLineAgrees s ↔ LineSettled s := by
  rw [FaultLineAgrees, LineSettled, ← faultLineLevel_iff]
  exact Bool.eq_iff_iff.symm

/-- The level depends on the parameters through LINE_MASK alone. -/
theorem faultLineLevel_congr {ps qs : Params} (h : ps.read Param.lineMask = qs.read Param.lineMask)
    (fs : PerFault FaultRecord) : faultLineLevel ps fs = faultLineLevel qs fs := by
  simp only [faultLineLevel, lineEnabled, h]

/-! What leaves the line settled: an operation that moves neither the line nor its inputs, and each fault
transition. -/

/-- Each of the three premises is, of most operations, one of their frame lemmas. -/
theorem LineSettled.congr {s t : State} (h : LineSettled s)
    (hline : t.lines.fault = s.lines.fault := by simp)
    (hparams : t.params = s.params := by simp) (hfaults : t.faults = s.faults := by simp) :
    LineSettled t := by
  rw [LineSettled, hline, hparams, hfaults]
  exact h

theorem staleEvent_settled (p : Port) {s : State} (h : LineSettled s) :
    LineSettled (staleEvent p s) := by
  obtain ⟨-, e⟩ | ⟨-, e⟩ := staleEvent_cases p s
  · rw [e]; exact h
  · rw [e]; exact enterFault_settled _ _

theorem freshEvent_settled (p : Port) {s : State} (h : LineSettled s) :
    LineSettled (freshEvent p s) := by
  obtain ⟨-, e⟩ | ⟨-, e⟩ := freshEvent_cases p s
  · rw [e]; exact clearFault_settled _ _
  · rw [e]; exact h

theorem releaseFault_settled (f : FaultId) {s : State} (h : LineSettled s) :
    LineSettled (releaseFault f s) := by
  unfold releaseFault
  split
  · exact clearFault_settled _ _
  · exact h

/-! The operations that cause a fault transition or write LINE_MASK. -/

theorem refreshPort_settled (p : Port) {s : State} (h : LineSettled s) :
    LineSettled (refreshPort p s) := by
  obtain ⟨-, e⟩ | ⟨-, -, e⟩ | ⟨-, -, e⟩ := refreshPort_cases p s
  · rw [e]; exact h
  · rw [e]; exact h.congr
  · rw [e]; exact freshEvent_settled p h.congr

theorem passDeadline_settled (p : Port) (ahead : Bool) {s : State} (h : LineSettled s) :
    LineSettled (passDeadline p ahead s) :=
  staleEvent_settled p h.congr

theorem triggerStatusAll_settled {s : State} (h : LineSettled s) : LineSettled (triggerStatusAll s) :=
  h.congr

/-- The entry into CONFIG ends with the clearing of LINK_S, whatever the line was before (R141). -/
theorem enterConfig_settled (s : State) : LineSettled (enterConfig s) :=
  triggerStatusAll_settled (clearFault_settled .linkS _)

theorem handObservations_settled (x : Inputs) {s : State} (h : LineSettled s) :
    LineSettled (handObservations x s) :=
  observe_settled _ _ (observe_settled _ _ (observe_settled _ _ (observe_settled _ _ h)))

/-- Of a completion, only the observations concern the line. -/
theorem complete_settled (x : Inputs) {s : State} (h : LineSettled s) :
    LineSettled (complete x s) := by
  have hpublished : LineSettled
      (placeCommands (computeSplit x).available (publish (computeSplit x) s)) := h.congr
  have hobserved := handObservations_settled x hpublished
  unfold complete
  exact hobserved.congr

/-- A write of LINE_MASK evaluates the line again; a write of another parameter keeps LINE_MASK (R163). -/
theorem writeParam_settled (i : Fin 40) (v : Nat) {s : State} (h : LineSettled s) :
    LineSettled (writeParam i v s) := by
  by_cases hmask : i = Param.lineMask
  · subst hmask; rfl
  · have hwritten : LineSettled (s.withParams (s.params.write i v)) := by
      have hkept : (s.params.write i v).read Param.lineMask = s.params.read Param.lineMask := by
        rw [Params.read_write, if_neg (Ne.symm hmask)]
      rw [LineSettled, State.withParams_lines, State.withParams_params, State.withParams_faults,
        faultLineLevel_congr hkept]
      exact h
    simp only [writeParam, if_neg hmask]
    split
    · exact hwritten.congr
    · exact hwritten

theorem setShutoff_settled (b : Bool) {s : State} (h : LineSettled s) : LineSettled (setShutoff b s) :=
  h.congr rfl

/-- RESET clears every fault and releases the line (R159). -/
theorem resetAsserted_settled (shutoff : Bool) (timing : List Timing) (pending : List Instr) :
    LineSettled (resetAsserted shutoff timing pending) := by
  have hclear : faultLineLevel paramDefaults State.reset.faults = false := by decide
  exact hclear.symm

/-! Every step. -/

theorem lineSettled_keptByEvents : KeptByEvents LineSettled where
  hunt _ _ h := h.congr
  ready _ _ h := h.congr
  firstByte _ _ _ h := h.congr
  nextByte _ _ _ _ _ _ h := h.congr
  refresh p _ h := refreshPort_settled p h
  choose _ _ h := h.congr
  leave _ _ _ _ h := h.congr
  forget _ h := h.congr
  uncount _ h := h.congr
  place _ _ _ _ h := h.congr
  linkError _ _ h := h.congr
  overrun _ _ h := h.congr
  demand _ _ _ _ h := h.congr
  envelope _ _ _ _ _ _ h := h.congr
  reference _ _ _ _ h := h.congr
  poll _ _ h := h.congr
  param i v _ _ _ _ h := writeParam_settled i v h
  cells _ _ _ _ _ _ _ _ _ h := h.congr
  select _ _ _ h := h.congr
  run _ _ _ _ h := h.congr
  halt _ _ h := h.congr
  config s _ _ := enterConfig_settled s
  release f _ h := releaseFault_settled f h
  segment _ _ _ _ _ _ _ _ _ _ _ h := h.congr
  tooLong _ h := h.congr
  abort _ h := h.congr
  put _ _ _ _ _ _ _ _ _ h := h.congr
  drop _ _ h := h.congr
  clear _ h := h.congr
  age _ h := h.congr
  pass p _ _ _ := ⟨fun h => passDeadline_settled p false h.2, fun h => passDeadline_settled p true h.2.2⟩
  ended _ _ h := h.congr
  shutoff b _ h := setShutoff_settled b h
  shutoffRun _ _ h := (setShutoff_settled true h).congr

theorem lineSettled_kept : Kept LineSettled where
  toKeptByEvents := lineSettled_keptByEvents
  complete x _ _ h := complete_settled x h
  interval _ h := h.congr
  compute _ h := h.congr
  count _ h := h.congr
  leaveTimed _ _ h := h.congr
  reset _ _ := resetAsserted_settled _ _ _
  started _ _ h := h.congr
  untimed _ h := h.congr
  queued _ _ h := h.congr

/-- Settles O7: the line stands at the level its inputs give, and every operation that a step is made of
keeps it there. -/
theorem faultLineFollowsTheFaults : Obligations.FaultLineFollowsTheFaults := by
  intro s t hs hstep
  rw [faultLineAgrees_iff] at hs ⊢
  exact lineSettled_kept.ofStep hs hstep

end Sys2Proof.Machine
end

section
/-! SUPPORT. The chain of operations of Laws/Steps for an invariant that reads few blocks: an
operation that moves none of them keeps it by its frame lemmas, and only the others need a word. -/
namespace Sys2Proof.Machine

/-- A property of states that every event's operations keep; a premise left out is closed by frame
lemmas. -/
theorem KeptByEvents.of {P : State → Prop}
    (hunt : ∀ p s, P s → P (setReceiver p .hunt s) := by intro _ _ h; simpa using h)
    (ready : ∀ p s, P s → P (setReceiver p .ready s) := by intro _ _ h; simpa using h)
    (firstByte : ∀ p b s, P s → P (setReceiver p (.receiving [b]) s) := by
      intro _ _ _ h; simpa using h)
    (nextByte : ∀ p held b s, (s.port p).receiver = .receiving held → held.length + 1 < 20 → P s →
      P (setReceiver p (.receiving (held ++ [b])) s) := by intro _ _ _ _ _ _ h; simpa using h)
    (refresh : ∀ p s, P s → P (refreshPort p s) := by intro _ _ h; simpa using h)
    (choose : ∀ p s, P s → P (startTransmitter p s) := by intro _ _ h; simpa using h)
    (leave : ∀ r s, r ≠ .computationStart → r ≠ .countdown → P s → P (Machine.leave r s) := by
      intro _ _ _ _ h; simpa using h)
    (forget : ∀ s, P s → P (dropRemainder s) := by intro _ h; simpa using h)
    (uncount : ∀ s, P s → P (s.withInstant { s.instant with counted := false }) := by
      intro _ h; simpa using h)
    (place : ∀ p r s, (s.port p).reply = none → P s → P (placeReply p r s) := by
      intro _ _ _ _ h; simpa using h)
    (linkError : ∀ p s, P s → P (markLinkError p s) := by intro _ _ h; simpa using h)
    (overrun : ∀ p s, P s → P (markOverrun p s) := by intro _ _ h; simpa using h)
    (demand : ∀ p t b s, P s → P (storeDemand p t b s) := by intro _ _ _ _ h; simpa using h)
    (envelope : ∀ p d r v b s, P s → P (storeEnvelope p d r v b s) := by
      intro _ _ _ _ _ _ h; simpa using h)
    (reference : ∀ p v b s, P s → P (storeReference p v b s) := by
      intro _ _ _ _ h; simpa using h)
    (poll : ∀ p s, P s → P (triggerStatus p s) := by intro _ _ h; simpa using h)
    (param : ∀ (i : Fin 40) v s, s.mode.state = .config →
      (Param.isWindow i.val && s.mode.windowLock) = false → paramAdmits i.val v = true → P s →
      P (writeParam i v s) := by intro _ _ _ _ _ _ h; simpa using h)
    (cells : ∀ m st sp n vs w s, cellWrite m st sp n vs = some w → mapInUse s w.map = false → P s →
      P (writeMap w s) := by intro _ _ _ _ _ _ _ _ _ h; simpa using h)
    (select : ∀ d r s, P s → P (s.withMaps { s.maps with drive := d, regen := r }) := by
      intro _ _ _ h; simpa using h)
    (run : ∀ s, s.mode.state ≠ .run → s.lines.shutoff = false → consistent s.params = true → P s →
      P (enterRun s) := by intro _ _ _ _ h; simpa using h)
    (halt : ∀ s, s.mode.state = .run → P s → P (enterHalt s) := by intro _ _ h; simpa using h)
    (config : ∀ s, s.mode.state = .halt → P s → P (enterConfig s) := by intro _ _ h; simpa using h)
    (release : ∀ f s, P s → P (releaseFault f s) := by intro _ _ h; simpa using h)
    (segment : ∀ i sh e t d g s, segmentOf i sh e t d = some g →
      mismatches s.queue.segments g = false → s.queue.segments.length < 16 →
      (incompleteTail s.queue.segments).length < 12 → P s →
      P (s.withQueue { s.queue with segments := s.queue.segments ++ [g] }) := by
      intro _ _ _ _ _ _ _ _ _ _ _ h; simpa using h)
    (tooLong : ∀ s, P s → P (s.withQueue
      (if withoutIncomplete s.queue.segments = [] then ProgramQueue.empty
        else { s.queue with segments := withoutIncomplete s.queue.segments })) := by
      intro _ h; simpa using h)
    (abort : ∀ s, P s → P (abortQueue s) := by intro _ h; simpa using h)
    (put : ∀ i k a v l e s, entryOf i k a v l = some e →
      (hasEntry s.table e.id || decide (s.table.length < 8)) = true → P s →
      P (s.withTable (putEntry e s.table)) := by intro _ _ _ _ _ _ _ _ _ h; simpa using h)
    (drop : ∀ n s, P s → P (s.withTable (dropEntry n s.table)) := by intro _ _ h; simpa using h)
    (clear : ∀ s, P s → P (s.withTable []) := by intro _ h; simpa using h)
    (age : ∀ s, P s → P (s.withTable (s.table.filterMap agedEntry)) := by intro _ h; simpa using h)
    (pass : ∀ p ahead s, s.supervisor.armed = true →
      (s.supervisor.deadlines.get p).freshness = .fresh → P s → P (passDeadline p ahead s) := by
      intro _ _ _ _ _ h; simpa using h)
    (ended : ∀ p s, P s → P (endTransmission p s) := by intro _ _ h; simpa using h)
    (shutoff : ∀ b s, P s → P (setShutoff b s) := by intro _ _ h; simpa using h) :
    KeptByEvents P where
  hunt := hunt
  ready := ready
  firstByte := firstByte
  nextByte := nextByte
  refresh := refresh
  choose := choose
  leave := leave
  forget := forget
  uncount := uncount
  place := place
  linkError := linkError
  overrun := overrun
  demand := demand
  envelope := envelope
  reference := reference
  poll := poll
  param := param
  cells := cells
  select := select
  run := run
  halt := halt
  config := config
  release := release
  segment := segment
  tooLong := tooLong
  abort := abort
  put := put
  drop := drop
  clear := clear
  age := age
  pass p s harmed hfresh :=
    ⟨fun h => pass p false s harmed hfresh h.2, fun h => pass p true s harmed hfresh h.2.2⟩
  ended := ended
  shutoff := shutoff
  shutoffRun s hrun h := halt (setShutoff true s) (by simpa using hrun) (shutoff true s h)

/-- The same for every operation, RESET and the queue of commands among them. -/
theorem Kept.of {P : State → Prop} (events : KeptByEvents P)
    (reset : ∀ shutoff timing pending, P (resetAsserted shutoff timing pending))
    (complete : ∀ x s, s.engine.inFlight = some x → P s → P (complete x s) := by
      intro _ _ _ h; simpa using h)
    (interval : ∀ s, P s → P (beginInterval s) := by intro _ h; simpa using h)
    (compute : ∀ s, P s → P (startComputation s) := by intro _ h; simpa using h)
    (count : ∀ s, P s → P (countDeadlines s) := by intro _ h; simpa using h)
    (leaveTimed : ∀ r s, P s → P (Machine.leave r s) := by intro _ _ h; simpa using h)
    (started : ∀ s, s.lines.reset = true → P s →
      P ((s.withLines { s.lines with reset := false }).withEngine
        { s.engine with interval := some (paramDefaults.read Param.periodUs) }) := by
      intro _ _ h; simpa using h)
    (untimed : ∀ s, P s → P (dropTiming s) := by intro _ h; simpa using h)
    (queued : ∀ rest s, P s → P (s.withPending rest) := by intro _ _ h; simpa using h) :
    Kept P where
  toKeptByEvents := events
  complete := complete
  interval := interval
  compute := compute
  count := count
  leaveTimed := leaveTimed
  reset _ _ := reset _ _ _
  started := started
  untimed := untimed
  queued := queued

end Sys2Proof.Machine
end

section
/-! PROOFS, spec 07: the Intervention Table. First the rules about the listed table and its one
insertion, then what each operation leaves of it; the obligation is assembled with the chain of
operations in Laws/Steps. -/
namespace Sys2Proof.Machine

/-! Entries by id. -/

theorem hasEntry_iff {t : List Entry} {n : Nat} : hasEntry t n = true ↔ ∃ x ∈ t, x.id = n := by
  simp [hasEntry]

/-- The table is listed by rising id. -/
def Rising (t : List Entry) : Prop := t.Pairwise fun a b => a.id < b.id

/-- An entry put in its place replaces the one of its id and leaves every other (R102, R103). -/
theorem mem_putEntry {t : List Entry} (h : Rising t) (e x : Entry) :
    x ∈ putEntry e t ↔ x = e ∨ (x ∈ t ∧ x.id ≠ e.id) := by
  induction t with
  | nil => simp [putEntry]
  | cons y ys ih =>
    obtain ⟨hy, hys⟩ := List.pairwise_cons.1 h
    unfold putEntry
    split
    · next hlt =>
      have hne : ∀ z ∈ y :: ys, z.id ≠ e.id := by
        rintro z (_ | ⟨_, hz⟩)
        · omega
        · have := hy z hz; omega
      rw [List.mem_cons]
      exact or_congr_right ⟨fun hx => ⟨hx, hne x hx⟩, And.left⟩
    · split
      · next hne heq =>
        have hother : ∀ z ∈ ys, z.id ≠ e.id := fun z hz => by have := hy z hz; omega
        rw [List.mem_cons, List.mem_cons]
        refine or_congr_right ⟨fun hx => ⟨.inr hx, hother x hx⟩, ?_⟩
        rintro ⟨rfl | hx, hid⟩
        · exact absurd heq.symm hid
        · exact hx
      · next hlt heq =>
        have hid : y.id ≠ e.id := fun hh => heq hh.symm
        rw [List.mem_cons, List.mem_cons, ih hys]
        constructor
        · rintro (rfl | rfl | ⟨hx, hne⟩)
          exacts [.inr ⟨.inl rfl, hid⟩, .inl rfl, .inr ⟨.inr hx, hne⟩]
        · rintro (rfl | ⟨rfl | hx, hne⟩)
          exacts [.inr (.inl rfl), .inl rfl, .inr (.inr ⟨hx, hne⟩)]

theorem rising_putEntry {t : List Entry} (h : Rising t) (e : Entry) : Rising (putEntry e t) := by
  induction t with
  | nil => exact List.pairwise_singleton _ _
  | cons y ys ih =>
    obtain ⟨hy, hys⟩ := List.pairwise_cons.1 h
    unfold putEntry
    split
    · next hlt =>
      refine List.pairwise_cons.2 ⟨?_, h⟩
      rintro z (_ | ⟨_, hz⟩)
      · exact hlt
      · exact hlt.trans (hy z hz)
    · split
      · next hne heq =>
        exact List.pairwise_cons.2 ⟨fun z hz => heq ▸ hy z hz, hys⟩
      · next hlt heq =>
        refine List.pairwise_cons.2 ⟨fun z hz => ?_, ih hys⟩
        rcases (mem_putEntry hys e z).1 hz with rfl | ⟨hz, -⟩
        · omega
        · exact hy z hz

theorem length_putEntry_le (e : Entry) (t : List Entry) : (putEntry e t).length ≤ t.length + 1 := by
  induction t with
  | nil => exact le_rfl
  | cons y ys ih =>
    unfold putEntry
    split
    · exact le_rfl
    · split
      · exact Nat.le_succ _
      · simpa using ih

/-- A replacement takes no further place. -/
theorem length_putEntry_of_hasEntry {t : List Entry} (h : Rising t) {e : Entry}
    (he : hasEntry t e.id = true) : (putEntry e t).length = t.length := by
  induction t with
  | nil => exact absurd he (by simp [hasEntry])
  | cons y ys ih =>
    obtain ⟨hy, hys⟩ := List.pairwise_cons.1 h
    obtain ⟨x, hx, hid⟩ := hasEntry_iff.1 he
    unfold putEntry
    split
    · next hlt =>
      rcases List.mem_cons.1 hx with rfl | hx
      · omega
      · have := hy x hx; omega
    · split
      · rfl
      · next hne =>
        have hx : x ∈ ys := (List.mem_cons.1 hx).resolve_left fun hh => hne (hh ▸ hid).symm
        simp [ih hys (hasEntry_iff.2 ⟨x, hx, hid⟩)]

/-! The table's own rules (R98 to R101). -/

/-- Every field of an entry lies in its range. -/
def EntryWf (e : Entry) : Prop :=
  1 ≤ e.id ∧ e.id ≤ 255 ∧ 1 ≤ e.lifetime ∧ e.lifetime ≤ 1000 ∧ e.value ≤ e.constraint.most

theorem tableWf_iff {t : List Entry} :
    TableWf t ↔ t.length ≤ 8 ∧ Rising t ∧ ∀ e ∈ t, EntryWf e := Iff.rfl

theorem tableWf_nil : TableWf [] := ⟨Nat.zero_le _, List.Pairwise.nil, nofun⟩

theorem capNat_le (most x : Nat) : capNat most x ≤ most := by
  unfold capNat
  split <;> omega

theorem capNat_eq_min (most x : Nat) : capNat most x = min x most := by
  unfold capNat
  split <;> omega

theorem entryWf_of_entryOf {id kind axle : Byte} {value lifetime : Half} {e : Entry}
    (h : entryOf id kind axle value lifetime = some e) : EntryWf e := by
  unfold entryOf at h
  split at h
  · cases h
  · next c _ =>
    split at h
    · next hr =>
      obtain rfl := Option.some.inj h
      have hid := id.isLt
      have hl := capNat_eq_min 1000 lifetime.toNat
      refine ⟨hr.1, Nat.le_of_lt_succ hid, ?_, capNat_le _ _, capNat_le _ _⟩
      show 1 ≤ capNat 1000 _
      omega
    · cases h

theorem tableWf_putEntry {t : List Entry} {e : Entry} (h : TableWf t) (he : EntryWf e)
    (hroom : (hasEntry t e.id || decide (t.length < 8)) = true) : TableWf (putEntry e t) := by
  obtain ⟨hlen, hrise, hall⟩ := tableWf_iff.1 h
  refine tableWf_iff.2 ⟨?_, rising_putEntry hrise e, fun x hx => ?_⟩
  · have hle := length_putEntry_le e t
    cases hin : hasEntry t e.id with
    | true => rw [length_putEntry_of_hasEntry hrise hin]; exact hlen
    | false =>
      rw [hin, Bool.false_or, decide_eq_true_eq] at hroom
      omega
  · rcases (mem_putEntry hrise e x).1 hx with rfl | ⟨hx, -⟩
    exacts [he, hall x hx]

theorem TableWf.sublist {t u : List Entry} (h : TableWf t) (hs : u.Sublist t) : TableWf u :=
  ⟨hs.length_le.trans h.1, h.2.1.sublist hs, fun e he => h.2.2 e (hs.subset he)⟩

theorem agedEntry_eq_some {e x : Entry} :
    agedEntry e = some x ↔ 1 < e.lifetime ∧ x = { e with lifetime := e.lifetime - 1 } := by
  unfold agedEntry
  split
  · next h => simp [h]
  · next h => simp [not_le.1 h, eq_comm]

/-- Ageing keeps every id, and no lifetime of those it leaves is 0 (R105). -/
theorem tableWf_aged {t : List Entry} (h : TableWf t) : TableWf (t.filterMap agedEntry) := by
  obtain ⟨hlen, hrise, hall⟩ := tableWf_iff.1 h
  refine tableWf_iff.2 ⟨(List.length_filterMap_le _ _).trans hlen, ?_, fun x hx => ?_⟩
  · refine List.Pairwise.filterMap _ (fun a a' hlt b hb b' hb' => ?_) hrise
    obtain ⟨-, rfl⟩ := agedEntry_eq_some.1 hb
    obtain ⟨-, rfl⟩ := agedEntry_eq_some.1 hb'
    exact hlt
  · obtain ⟨e, he, hx⟩ := List.mem_filterMap.1 hx
    obtain ⟨hlife, rfl⟩ := agedEntry_eq_some.1 hx
    obtain ⟨h1, h2, -, h4, h5⟩ := hall e he
    exact ⟨h1, h2, by dsimp only; omega, by dsimp only; omega, h5⟩

/-! Every step. -/

theorem enterConfig_table (s : State) : (enterConfig s).table = [] := by simp [enterConfig]

theorem tableWf_keptByEvents : KeptByEvents fun s => TableWf s.table :=
  .of (config := fun s _ _ => enterConfig_table s ▸ tableWf_nil)
    (put := fun _ _ _ _ _ _ _ he hroom h => tableWf_putEntry h (entryWf_of_entryOf he) hroom)
    (drop := fun _ _ h => h.sublist List.filter_sublist)
    (clear := fun _ _ => tableWf_nil)
    (age := fun _ h => tableWf_aged h)

theorem tableWf_kept : Kept fun s => TableWf s.table :=
  .of tableWf_keptByEvents (fun _ _ _ => tableWf_nil)

/-- Settles O8: only INTERVENE puts an entry into the table, in its place and where there is
room. -/
theorem stepKeepsTheTableWellFormed : Obligations.StepKeepsTheTableWellFormed :=
  fun _ _ hs hstep => tableWf_kept.ofStep hs hstep

end Sys2Proof.Machine
end

section
/-! PROOFS, spec 02: the demand stage, the map interpolation, the program share and the axle limits.
First the rules about each stage; then the obligations, each assembled from the rules of its
stage. -/
namespace Sys2Proof.Machine

/-! A part e of d of a number lies between 0 and the number. -/

theorem truncDiv_mul_mem_of_nonneg {n : Int} (hn : 0 ≤ n) {e d : Nat} (h : e ≤ d) :
    0 ≤ truncDiv (n * (e : Int)) (d : Int) ∧ truncDiv (n * (e : Int)) (d : Int) ≤ n := by
  have hlo : 0 ≤ n * (e : Int) := mul_nonneg hn (Int.natCast_nonneg _)
  have hhi : n * (e : Int) ≤ n * (d : Int) := mul_le_mul_of_nonneg_left (by exact_mod_cast h) hn
  rw [truncDiv, Int.tdiv_eq_ediv_of_nonneg hlo]
  refine ⟨Int.ediv_nonneg hlo (Int.natCast_nonneg _), ?_⟩
  rcases Nat.eq_zero_or_pos d with rfl | hd
  · simpa using hn
  · exact Int.ediv_le_of_le_mul (by exact_mod_cast hd) hhi

theorem truncDiv_mul_mem_uIcc (n : Int) {e d : Nat} (h : e ≤ d) :
    truncDiv (n * (e : Int)) (d : Int) ∈ Set.uIcc 0 n := by
  rw [Set.mem_uIcc]
  rcases le_total 0 n with hn | hn
  · exact .inl (truncDiv_mul_mem_of_nonneg hn h)
  · have hneg := truncDiv_mul_mem_of_nonneg (neg_nonneg.2 hn) h
    rw [truncDiv, neg_mul, Int.neg_tdiv, ← truncDiv] at hneg
    omega

/-- From `a` toward `b` by a part of their distance: between the two. -/
theorem min_le_add_truncDiv_le_max (a b : Int) {e d : Nat} (h : e ≤ d) :
    min a b ≤ a + truncDiv ((b - a) * (e : Int)) (d : Int) ∧
      a + truncDiv ((b - a) * (e : Int)) (d : Int) ≤ max a b := by
  have hmem := truncDiv_mul_mem_uIcc (b - a) h
  rw [Set.mem_uIcc] at hmem
  omega

/-! The demand stage (R20 to R22). -/

theorem decayToward_eq (h step : Int) (hs : 0 ≤ step) :
    decayToward h step = if 0 ≤ h then max 0 (h - step) else min 0 (h + step) := by
  unfold decayToward mag
  split
  · next hh =>
    rcases hh.eq_or_lt with rfl | hpos
    · simp; omega
    · rw [Int.sign_eq_one_of_pos hpos]; omega
  · next hh => rw [Int.sign_eq_neg_one_of_neg (not_le.1 hh)]; omega

theorem linkVActive_iff (x : Inputs) : x.linkVActive = true ↔ x.faults.linkV = .active := by
  simp [Inputs.linkVActive]

theorem linkSActive_iff (x : Inputs) : x.linkSActive = true ↔ x.faults.linkS = .active := by
  simp [Inputs.linkSActive]

section Forms
variable {x : Inputs}

/-- R20 with LINK_V not active: the mode and propulsion decide, and the hold state is set back. -/
theorem formDemand_of_link (h : x.faults.linkV ≠ .active) : formDemand x =
    ⟨if x.mode = .run then (if x.demand.propulsion then x.demand.torque else 0) else 0,
      x.mode != .run, false, 0, x.demand.torque⟩ := by
  rw [formDemand, if_neg (fun hv => h ((linkVActive_iff x).1 hv))]

/-- R20, case 4, with the hold and decay of R21. -/
theorem formDemand_of_held (h : x.faults.linkV = .active) (hm : x.mode = .run)
    (hp : x.demand.propulsion = true) : formDemand x =
    ⟨heldDemand x, false, true, nextHoldCount x.holdCount, heldDemand x⟩ := by
  rw [formDemand, if_pos ((linkVActive_iff x).2 h), if_pos hm, if_pos hp]

/-- R20 with LINK_V active outside case 4: no demand, and the hold state is kept. -/
theorem formDemand_of_kept (h : x.faults.linkV = .active)
    (hm : x.mode ≠ .run ∨ x.demand.propulsion = false) : formDemand x =
    ⟨0, x.mode != .run, false, x.holdCount, x.heldValue⟩ := by
  rw [formDemand, if_pos ((linkVActive_iff x).2 h)]
  by_cases hr : x.mode = .run
  · have hp : x.demand.propulsion = false := hm.resolve_left (not_not_intro hr)
    simp [hr, hp]
  · simp [hr]

end Forms

theorem formDemand_idle (x : Inputs) : (formDemand x).idle = (x.mode != .run) := by
  by_cases hv : x.faults.linkV = .active
  · by_cases hk : x.mode ≠ .run ∨ x.demand.propulsion = false
    · rw [formDemand_of_kept hv hk]
    · obtain ⟨hm, hp⟩ := not_or.1 hk
      rw [formDemand_of_held hv (not_not.1 hm) (by simpa using hp)]
      simp [not_not.1 hm]
  · rw [formDemand_of_link hv]

theorem formDemand_held (x : Inputs) : (formDemand x).held = true ↔
    x.faults.linkV = .active ∧ x.mode = .run ∧ x.demand.propulsion = true := by
  by_cases hv : x.faults.linkV = .active
  · by_cases hk : x.mode ≠ .run ∨ x.demand.propulsion = false
    · rw [formDemand_of_kept hv hk]
      simp only [Bool.false_eq_true, false_iff]
      rintro ⟨-, hm, hp⟩
      rcases hk with hk | hk
      · exact hk hm
      · exact absurd hp (by simp [hk])
    · obtain ⟨hm, hp⟩ := not_or.1 hk
      have hp : x.demand.propulsion = true := by simpa using hp
      rw [formDemand_of_held hv (not_not.1 hm) hp]
      simp [hv, not_not.1 hm, hp]
  · rw [formDemand_of_link hv]
    simp [hv]

theorem formDemand_d0 (x : Inputs) : (formDemand x).d0 =
    if x.mode ≠ .run ∨ x.demand.propulsion = false then 0
    else if x.faults.linkV = .active then heldDemand x else x.demand.torque := by
  by_cases hk : x.mode ≠ .run ∨ x.demand.propulsion = false
  · rw [if_pos hk]
    by_cases hv : x.faults.linkV = .active
    · rw [formDemand_of_kept hv hk]
    · rw [formDemand_of_link hv]
      rcases hk with hm | hp
      · simp [hm]
      · simp [hp]
  · rw [if_neg hk]
    obtain ⟨hm, hp⟩ := not_or.1 hk
    have hm : x.mode = .run := not_not.1 hm
    have hp : x.demand.propulsion = true := by simpa using hp
    by_cases hv : x.faults.linkV = .active
    · rw [formDemand_of_held hv hm hp, if_pos hv]
    · rw [formDemand_of_link hv, if_neg hv]
      simp [hm, hp]

theorem smallest_cons (v : Nat) (vs : List Nat) :
    smallest (v :: vs) = some ((smallest vs).elim v (min v)) := by
  rw [smallest]
  cases smallest vs <;> rfl

theorem smallest_of_ne_nil : ∀ {l : List Nat}, l ≠ [] →
    ∃ m, smallest l = some m ∧ m ∈ l ∧ ∀ v ∈ l, m ≤ v
  | [], h => absurd rfl h
  | [v], _ => ⟨v, rfl, List.mem_singleton_self v, fun w hw => (List.mem_singleton.1 hw).ge⟩
  | v :: w :: vs, _ => by
    obtain ⟨m, hm, hmem, hle⟩ := smallest_of_ne_nil (List.cons_ne_nil w vs)
    refine ⟨min v m, by rw [smallest_cons, hm]; rfl, ?_, ?_⟩
    · rcases min_choice v m with h | h <;> rw [h]
      · exact List.mem_cons_self
      · exact List.mem_cons_of_mem _ hmem
    · rintro u (_ | ⟨_, hu⟩)
      · exact min_le_left _ _
      · exact (min_le_right _ _).trans (hle u hu)

/-- A cap in force bounds the magnitude, and the sign is kept (R22). -/
theorem mag_cappedDemand (c : Nat) (d0 : Int) :
    mag (cappedDemand (some c) d0) = min (mag d0) (c : Int) := by
  unfold cappedDemand
  dsimp only
  split
  · next h => rw [mag_sign_mul (Int.natCast_nonneg _) h.le, min_eq_right h.le]
  · next h => rw [min_eq_left (not_lt.1 h)]

theorem cappedDemand_eq_zero_or_sign (cap : Option Nat) (d0 : Int) :
    cappedDemand cap d0 = 0 ∨ (cappedDemand cap d0).sign = d0.sign := by
  unfold cappedDemand
  split
  · exact .inr rfl
  · split
    · exact sign_mul_eq_zero_or_sign d0 (Int.natCast_nonneg _)
    · exact .inr rfl

theorem totalCap_eq (x : Inputs) : totalCap x =
    smallest ((x.constraints.filter (fun e => e.1 == .totalCap)).map (·.2) ++
      (if x.faults.linkS = .active then [x.params.read Param.limpCap] else [])) := by
  simp only [totalCap, constraintValues, linkSActive_iff]

theorem computeSplit_totalCap (x : Inputs) :
    (computeSplit x).totalCap = (totalCap x).map (Nat.cast : Nat → Int) := by
  unfold computeSplit
  dsimp only
  cases totalCap x <;> rfl

theorem computeSplit_dUsed (x : Inputs) :
    (computeSplit x).dUsed = cappedDemand (totalCap x) (formDemand x).d0 := rfl

/-- Settles O50: the forms of the demand stage case by case, then the smallest cap against |D0|. -/
theorem demandStageFollowsItsCases : Obligations.DemandStageFollowsItsCases := by
  intro x
  have hheld : heldDemand x = if min (x.holdCount + 1) 65535 ≤ x.params.read Param.holdV
      then x.demand.torque
      else if 0 ≤ x.heldValue then max 0 (x.heldValue - (x.params.read Param.decayV : Int))
      else min 0 (x.heldValue + (x.params.read Param.decayV : Int)) := by
    rw [heldDemand, decayToward_eq _ _ (Int.natCast_nonneg _)]
    rfl
  have hcount : (computeSplit x).holdCount = (formDemand x).holdCount := rfl
  have hvalue : (computeSplit x).heldValue = (formDemand x).heldValue := rfl
  have hflag : (computeSplit x).flags.totalCapped =
      capExceeded (totalCap x) (formDemand x).d0 := rfl
  dsimp only
  rw [hcount, hvalue, computeSplit_dUsed, computeSplit_totalCap, hflag, ← hheld, ← formDemand_d0,
    totalCap_eq]
  refine ⟨fun hv => ?_, fun hv hm hp => ?_, fun hv hk => ?_, ?_, formDemand_held x, fun hnil => ?_,
    fun hne => ?_⟩
  · rw [formDemand_of_link hv]
    exact ⟨rfl, rfl⟩
  · rw [formDemand_of_held hv hm hp]
    exact ⟨rfl, rfl⟩
  · rw [formDemand_of_kept hv hk]
    exact ⟨rfl, rfl⟩
  · have hidle : (computeSplit x).flags.idle = (formDemand x).idle := rfl
    rw [hidle, formDemand_idle]
    simp
  · rw [hnil]
    exact ⟨rfl, rfl, rfl⟩
  · obtain ⟨m, hm, hmem, hle⟩ := smallest_of_ne_nil hne
    rw [hm]
    exact ⟨m, hmem, hle, rfl, mag_cappedDemand m _, cappedDemand_eq_zero_or_sign _ _,
      decide_eq_true_iff⟩

/-! The position on an axis (R27). -/

/-- The last index below `n` with a property: the largest one, none where no index has it. -/
theorem getLast?_filter_range (p : Nat → Bool) (n : Nat) :
    (((List.range n).filter p).getLast? = none ∧ ∀ k < n, p k = false) ∨
      ∃ i, ((List.range n).filter p).getLast? = some i ∧ i < n ∧ p i = true ∧
        ∀ k < n, p k = true → k ≤ i := by
  induction n with
  | zero => exact .inl ⟨rfl, nofun⟩
  | succ n ih =>
    rw [List.range_succ, List.filter_append]
    cases hp : p n with
    | true =>
      refine .inr ⟨n, by simp [hp], Nat.lt_succ_self n, hp, fun k hk _ => Nat.le_of_lt_succ hk⟩
    | false =>
      have hnil : [n].filter p = [] := by simp [hp]
      rw [hnil, List.append_nil]
      have hlt : ∀ k, k < n + 1 → p k = true → k < n := by
        intro k hk hpk
        rcases Nat.lt_succ_iff_lt_or_eq.1 hk with h | rfl
        · exact h
        · simp [hp] at hpk
      rcases ih with ⟨h, hall⟩ | ⟨i, h, hi, hpi, hmax⟩
      · refine .inl ⟨h, fun k hk => ?_⟩
        rw [Bool.eq_false_iff]
        exact fun hpk => absurd (hall k (hlt k hk hpk)) (by simp [hpk])
      · exact .inr ⟨i, h, by omega, hpi, fun k hk hpk => hmax k (hlt k hk hpk) hpk⟩

/-- Below the first breakpoint the axis stands at index 0, with fraction 0. -/
theorem axisPosition_of_below {bps : List Nat} {v : Nat} (h : ∀ k, k ≤ 7 → v < bps.getD k 0) :
    axisPosition bps v = (0, 0) := by
  unfold axisPosition lastAtMost
  rcases getLast?_filter_range (fun i => bps.getD i 0 ≤ v) 8 with ⟨hn, -⟩ | ⟨i, -, hi, hle, -⟩
  · rw [hn]
  · have := h i (by omega)
    simp only [decide_eq_true_eq] at hle
    omega

/-- From the first breakpoint on it stands at the largest index whose breakpoint is at most the
value. -/
theorem axisPosition_of_above {bps : List Nat} {v : Nat} (h : ∃ k, k ≤ 7 ∧ bps.getD k 0 ≤ v) :
    ∃ i, i ≤ 7 ∧ bps.getD i 0 ≤ v ∧ (∀ k, k ≤ 7 → bps.getD k 0 ≤ v → k ≤ i) ∧
      axisPosition bps v = if i = 7 then (7, 0)
        else (i, (v - bps.getD i 0) * 256 / (bps.getD (i + 1) 0 - bps.getD i 0)) := by
  obtain ⟨k, hk, hkv⟩ := h
  unfold axisPosition lastAtMost
  rcases getLast?_filter_range (fun i => bps.getD i 0 ≤ v) 8 with ⟨-, hall⟩ | ⟨i, hs, hi, hle, hmax⟩
  · have := hall k (by omega)
    simp only [decide_eq_false_iff_not] at this
    exact absurd hkv this
  · simp only [decide_eq_true_eq] at hle hmax
    exact ⟨i, by omega, hle, fun k hk hkv => hmax k (by omega) hkv, by rw [hs]⟩

/-- Between two breakpoints the fraction of 256 is below 256. -/
theorem axisFraction_le {lo hi v : Nat} (h0 : lo ≤ v) (h1 : v < hi) :
    (v - lo) * 256 / (hi - lo) ≤ 255 := by
  have hlt : (v - lo) * 256 / (hi - lo) < 256 := by
    rw [Nat.div_lt_iff_lt_mul (by omega), mul_comm]
    exact Nat.mul_lt_mul_of_pos_left (by omega) (by omega)
  omega

theorem axisPosition_fraction_le (bps : List Nat) (v : Nat) : (axisPosition bps v).2 ≤ 255 := by
  by_cases h : ∃ k, k ≤ 7 ∧ bps.getD k 0 ≤ v
  · obtain ⟨i, hi, hle, hmax, he⟩ := axisPosition_of_above h
    rw [he]
    split
    · exact Nat.zero_le _
    · next hne =>
      refine axisFraction_le hle (not_le.1 fun hnext => ?_)
      have := hmax (i + 1) (by omega) hnext
      omega
  · rw [axisPosition_of_below (by simpa using h)]
    exact Nat.zero_le _

/-! The interpolation (R28). -/

theorem blend_mem {lo hi c0 c1 : Int} {f : Nat} (h0 : lo ≤ c0 ∧ c0 ≤ hi) (h1 : lo ≤ c1 ∧ c1 ≤ hi)
    (hf : f ≤ 255) : lo ≤ blend c0 c1 f ∧ blend c0 c1 f ≤ hi := by
  have hmem := min_le_add_truncDiv_le_max c0 c1 (e := f) (d := 256) (by omega)
  unfold blend
  constructor
  · exact (le_min h0.1 h1.1).trans hmem.1
  · exact hmem.2.trans (max_le h0.2 h1.2)

@[simp] theorem blend_zero (c0 c1 : Int) : blend c0 c1 0 = c0 := by simp [blend, truncDiv]

theorem interpolate_mem (ps : Params) (cells : Vector Nat 64) (sp dm : Nat) {lo hi : Int}
    (h : ∀ a b, (a = (axisPosition (speedBps ps) sp).1 ∨
        a = min ((axisPosition (speedBps ps) sp).1 + 1) 7) →
      (b = (axisPosition (demandBps ps) dm).1 ∨
        b = min ((axisPosition (demandBps ps) dm).1 + 1) 7) →
      lo ≤ cellAt cells a b ∧ cellAt cells a b ≤ hi) :
    lo ≤ interpolate ps cells sp dm ∧ interpolate ps cells sp dm ≤ hi := by
  have hx := axisPosition_fraction_le (speedBps ps) sp
  have hy := axisPosition_fraction_le (demandBps ps) dm
  exact blend_mem (blend_mem (h _ _ (.inl rfl) (.inl rfl)) (h _ _ (.inr rfl) (.inl rfl)) hx)
    (blend_mem (h _ _ (.inl rfl) (.inr rfl)) (h _ _ (.inr rfl) (.inr rfl)) hx) hy

/-- At one of eight strictly ascending breakpoints the axis stands there, with fraction 0 (R44). -/
theorem axisPosition_at_breakpoint (bp : Fin 8 → Nat) (h : ∀ a b : Fin 8, a < b → bp a < bp b)
    (i : Fin 8) : axisPosition ((List.finRange 8).map bp) (bp i) = (i.val, 0) := by
  have hget : ∀ k (hk : k < 8), ((List.finRange 8).map bp).getD k 0 = bp ⟨k, hk⟩ := by
    intro k hk
    rw [List.getD_eq_getElem _ _ (by simpa using hk)]
    simp
  have hi := hget i.val i.isLt
  obtain ⟨j, hj, hle, hmax, he⟩ :=
    axisPosition_of_above (bps := (List.finRange 8).map bp) (v := bp i) ⟨i.val, by omega, hi.le⟩
  have hij : i.val ≤ j := hmax _ (by omega) hi.le
  have hji : j ≤ i.val := by
    by_contra hlt
    rw [hget j (by omega)] at hle
    exact absurd (h i ⟨j, by omega⟩ (not_le.1 hlt)) (not_lt.2 hle)
  obtain rfl : j = i.val := le_antisymm hji hij
  rw [he, hi]
  split
  · next h7 => rw [h7]
  · simp

/-- Settles O53: the position on each axis, then the three blends, each between its two ends. -/
theorem interpolationStaysBetweenItsCells : Obligations.InterpolationStaysBetweenItsCells := by
  refine ⟨fun bps v => ?_, fun ps cells sp dm => rfl, fun ps cells sp dm lo hi h => ?_,
    fun ps cells i j hs hd => ?_, fun x => rfl⟩
  · dsimp only
    by_cases h : ∃ k, k ≤ 7 ∧ bps.getD k 0 ≤ v
    · have hf := axisPosition_fraction_le bps v
      obtain ⟨i, hi, hle, hmax, he⟩ := axisPosition_of_above h
      have h1 : (axisPosition bps v).1 = i := by
        rw [he]
        split
        · next h7 => exact h7.symm
        · rfl
      rw [h1]
      refine ⟨hf, hi, hmax, fun _ => ⟨hle, fun hlt => ?_⟩, fun hb => ?_, fun h7 => ?_⟩
      · rw [he, if_neg hlt.ne]
      · obtain ⟨k, hk, hkv⟩ := h
        exact absurd hkv (not_le.2 (hb k hk))
      · rw [he, if_pos h7]
    · have hb : ∀ k, k ≤ 7 → v < bps.getD k 0 := by simpa using h
      rw [axisPosition_of_below hb]
      exact ⟨Nat.zero_le _, Nat.zero_le _, fun k hk hkv => absurd hkv (not_le.2 (hb k hk)),
        fun hk => absurd hk h, fun _ => ⟨rfl, rfl⟩, fun _ => rfl⟩
  · exact interpolate_mem ps cells sp dm h
  · have hi : axisPosition (speedBps ps) (ps.read (Param.speedBp i)) = (i.val, 0) :=
      axisPosition_at_breakpoint (fun k => ps.read (Param.speedBp k)) hs i
    have hj : axisPosition (demandBps ps) (ps.read (Param.demandBp j)) = (j.val, 0) :=
      axisPosition_at_breakpoint (fun k => ps.read (Param.demandBp k)) hd j
    simp only [interpolate, hi, hj, blend_zero]

/-! The program share (R124). -/

theorem segmentShare_of_step {g : Segment} (h : g.shape = .step) (s0 : Int) (e : Nat) :
    segmentShare g s0 e = g.target := by
  rw [segmentShare, h]

theorem segmentShare_of_ramp {g : Segment} (h : g.shape = .ramp) (s0 : Int) (e : Nat) :
    segmentShare g s0 e =
      s0 + truncDiv (((g.target : Int) - s0) * (e : Int)) (g.duration : Int) := by
  rw [segmentShare, h]

/-- While computations are left a segment's share lies between its start share and its target. -/
theorem segmentShare_mem (g : Segment) (s0 : Int) {e : Nat} (h : e ≤ g.duration) :
    min s0 g.target ≤ segmentShare g s0 e ∧ segmentShare g s0 e ≤ max s0 g.target := by
  cases hs : g.shape with
  | step =>
    rw [segmentShare_of_step hs]
    exact ⟨min_le_right _ _, le_max_right _ _⟩
  | ramp =>
    rw [segmentShare_of_ramp hs]
    exact min_le_add_truncDiv_le_max s0 g.target h

/-- Settles O54: a ramp moves by a part of the way, at its last computation by all of it. -/
theorem programShareReachesItsTarget : Obligations.ProgramShareReachesItsTarget := by
  refine ⟨fun g s0 e h1 he => ⟨fun hs => segmentShare_of_step hs s0 e, fun hs => ?_⟩, fun x => ?_⟩
  · obtain ⟨hlo, hhi⟩ := segmentShare_mem g s0 he
    refine ⟨segmentShare_of_ramp hs s0 e, hlo, hhi, ?_⟩
    rintro rfl
    rw [segmentShare_of_ramp hs, truncDiv, Int.mul_tdiv_cancel _ (by omega)]
    omega
  · have hbase : (computeSplit x).sBase = baseShare x (computeSplit x).sMap := rfl
    have hsource : (computeSplit x).source = baseSource x := rfl
    have hflag : (computeSplit x).flags.program = (baseSource x == .program) := rfl
    dsimp only
    rw [hbase, hsource, hflag, baseShare, baseSource]
    refine ⟨fun hp => ?_, fun pr hp => ?_⟩ <;> rw [hp] <;> exact ⟨rfl, rfl, rfl⟩

/-! The axle limits (R32, R33). -/

theorem baseLimit_of_available {x : Inputs} {a : Axle} (h : available x a = true) (d : Int) :
    baseLimit x a d = if d < 0 then (x.axles.get a).regenMax else (x.axles.get a).driveMax := by
  rw [baseLimit, if_pos h]

theorem stallCaps_iff (x : Inputs) (a : Axle) : stallCaps x a = true ↔
    x.faults.get (axleStall a) = .latched ∧ x.stallAction.get a = true := by
  simp [stallCaps]

/-- Settles O56: the limit is the fold of `min` over the caps, from the base limit. -/
theorem axleLimitIsTheSmallestBound : Obligations.AxleLimitIsTheSmallestBound := by
  refine ⟨fun x a d => ?_, fun x a => ⟨computeSplit_limit x a, by cases a <;> rfl⟩⟩
  dsimp only
  rw [← stallCaps_iff]
  refine ⟨fun h => axleLimit_of_unavailable h d, ?_, fun v hv => ?_, fun hc => ?_, fun ha => ?_⟩
  · cases ha : available x a with
    | true =>
      rw [← baseLimit_of_available ha d]
      exact foldr_min_le_init _ _
    | false =>
      rw [axleLimit_of_unavailable ha]
      exact Nat.zero_le _
  · exact List.min_le_of_le' _ (List.mem_append_left _ (mem_constraintValues.2 hv)) le_rfl
  · refine List.min_le_of_le' _ (List.mem_append_right _ ?_) le_rfl
    simp [hc]
  · have hfold : axleLimit x a d = baseLimit x a d ∨ axleLimit x a d ∈
        constraintValues x (.axleCap a) ++
          (if stallCaps x a then [x.params.read Param.stallCap] else []) :=
      foldr_eq_init_or_mem min_choice _ _
    rcases hfold with h | h
    · exact .inl (h.trans (baseLimit_of_available ha d))
    · refine .inr ((List.mem_append.1 h).imp mem_constraintValues.1 fun hstall => ?_)
      split at hstall
      · next hc => exact ⟨hc, List.mem_singleton.1 hstall⟩
      · simp at hstall

end Sys2Proof.Machine
end

section
/-! PROOFS, spec 08 and spec 03: the Program Queue and the shares that a computation reads. First
the programs that a queue's segments form, then each operation on the queue, then the base share of
a computation; the obligation is assembled with the chain of operations. -/
namespace Sys2Proof.Machine

/-! The complete programs of a queue and the incomplete one at its tail (R117). -/

/-- The segments end with END, or are none: complete programs alone. -/
def EndsComplete (gs : List Segment) : Prop := ∀ g, gs.getLast? = some g → g.last = true

/-- No segment carries END: an incomplete program, or none. -/
def Unended (gs : List Segment) : Prop := ∀ g ∈ gs, g.last = false

theorem endsComplete_cons_cons {g h : Segment} {gs : List Segment} :
    EndsComplete (g :: h :: gs) ↔ EndsComplete (h :: gs) := by
  simp [EndsComplete, List.getLast?_cons_cons]

/-- Every queue is complete programs and then an incomplete one. -/
theorem exists_complete_append (gs : List Segment) :
    ∃ kept tail, gs = kept ++ tail ∧ EndsComplete kept ∧ Unended tail := by
  induction gs with
  | nil => exact ⟨[], [], rfl, nofun, nofun⟩
  | cons g gs ih =>
    obtain ⟨kept, tail, rfl, hk, ht⟩ := ih
    cases kept with
    | cons k ks => exact ⟨g :: k :: ks, tail, rfl, endsComplete_cons_cons.2 hk, ht⟩
    | nil =>
      cases hg : g.last with
      | true => exact ⟨[g], tail, rfl, by simpa [EndsComplete] using hg, ht⟩
      | false => exact ⟨[], g :: tail, rfl, nofun, by simpa [Unended, hg] using ht⟩

theorem Unended.any_eq_false {gs : List Segment} (h : Unended gs) : (gs.any (·.last)) = false :=
  List.any_eq_false.2 fun g hg => by simp [h g hg]

theorem EndsComplete.exists_last {gs : List Segment} (h : EndsComplete gs) (hne : gs ≠ []) :
    ∃ g ∈ gs, g.last = true :=
  ⟨gs.getLast hne, List.getLast_mem hne, h _ (List.getLast?_eq_some_getLast hne)⟩

theorem incompleteTail_append {kept tail : List Segment} (hk : EndsComplete kept)
    (ht : Unended tail) : incompleteTail (kept ++ tail) = tail := by
  induction kept with
  | nil =>
    cases tail with
    | nil => rfl
    | cons g gs =>
      have hg : g.last = false := ht g List.mem_cons_self
      have hgs : (gs.any (·.last)) = false :=
        Unended.any_eq_false fun x hx => ht x (List.mem_cons_of_mem _ hx)
      simp only [List.nil_append, incompleteTail, hg, hgs, Bool.false_eq_true, if_false]
  | cons k ks ih =>
    cases ks with
    | nil =>
      have hlast : k.last = true := hk k rfl
      have := ht.any_eq_false
      simp [incompleteTail, hlast, this]
    | cons k' ks =>
      have hk' : EndsComplete (k' :: ks) := endsComplete_cons_cons.1 hk
      obtain ⟨g, hg, hlast⟩ := hk'.exists_last (List.cons_ne_nil _ _)
      have hany : (((k' :: ks) ++ tail).any (·.last)) = true :=
        List.any_eq_true.2 ⟨g, List.mem_append_left _ hg, hlast⟩
      rw [List.cons_append, incompleteTail, if_pos hany]
      exact ih hk'

theorem withoutIncomplete_append {kept tail : List Segment} (hk : EndsComplete kept)
    (ht : Unended tail) : withoutIncomplete (kept ++ tail) = kept := by
  simp [withoutIncomplete, incompleteTail_append hk ht]

/-! The list of programs. -/

theorem programsOf_cons_of_last {g : Segment} (h : g.last = true) (gs : List Segment) :
    programsOf (g :: gs) = [g] :: programsOf gs := by
  rw [programsOf, if_pos h]

/-- A segment without END joins the program that follows it, or is a program of its own. -/
theorem programsOf_cons_of_not_last {g : Segment} (h : g.last = false) (gs : List Segment) :
    (programsOf gs = [] ∧ programsOf (g :: gs) = [[g]]) ∨
      ∃ pr rest, programsOf gs = pr :: rest ∧ programsOf (g :: gs) = (g :: pr) :: rest := by
  rw [programsOf, if_neg (by simp [h])]
  cases programsOf gs with
  | nil => exact .inl ⟨rfl, rfl⟩
  | cons pr rest => exact .inr ⟨pr, rest, rfl, rfl⟩

theorem programsOf_eq_nil {gs : List Segment} (h : programsOf gs = []) : gs = [] := by
  cases gs with
  | nil => rfl
  | cons g gs =>
    cases hg : g.last with
    | true => simp [programsOf_cons_of_last hg] at h
    | false =>
      rcases programsOf_cons_of_not_last hg gs with ⟨-, e⟩ | ⟨pr, rest, -, e⟩ <;> simp [e] at h

theorem programsOf_append {kept : List Segment} (hk : EndsComplete kept) (tail : List Segment) :
    programsOf (kept ++ tail) = programsOf kept ++ programsOf tail := by
  induction kept with
  | nil => rfl
  | cons k ks ih =>
    cases ks with
    | nil =>
      have hlast : k.last = true := hk k rfl
      rw [List.singleton_append, programsOf_cons_of_last hlast, programsOf_cons_of_last hlast]
      rfl
    | cons k' ks =>
      have e := ih (endsComplete_cons_cons.1 hk)
      rw [List.cons_append]
      cases hlast : k.last with
      | true => rw [programsOf_cons_of_last hlast, programsOf_cons_of_last hlast, e]; rfl
      | false =>
        rcases programsOf_cons_of_not_last hlast (k' :: ks) with ⟨hn, -⟩ | ⟨pr, rest, hp, hc⟩
        · exact absurd (programsOf_eq_nil hn) (List.cons_ne_nil _ _)
        · rw [programsOf, if_neg (by simp [hlast]), e, hp, hc]
          rfl

theorem programsOf_unended_append {tail : List Segment} (ht : Unended tail) (g : Segment) :
    programsOf (tail ++ [g]) = [tail ++ [g]] := by
  induction tail with
  | nil =>
    rw [List.nil_append, programsOf]
    split <;> rfl
  | cons h hs ih =>
    have hlast : h.last = false := ht h List.mem_cons_self
    rw [List.cons_append, programsOf, if_neg (by simp [hlast]),
      ih fun x hx => ht x (List.mem_cons_of_mem _ hx)]

theorem programsOf_unended {tail : List Segment} (ht : Unended tail) (hne : tail ≠ []) :
    programsOf tail = [tail] := by
  obtain ⟨hs, h, rfl⟩ := List.eq_nil_or_concat tail |>.resolve_left hne
  rw [List.concat_eq_append] at ht ⊢
  exact programsOf_unended_append (fun x hx => ht x (List.mem_append_left _ hx)) h

/-- Each program of the queue: twelve segments at most, all of one id (R116, R117, R120). -/
def ProgramsWf (gs : List Segment) : Prop :=
  ∀ pr ∈ programsOf gs, pr.length ≤ 12 ∧ ∀ g ∈ pr, ∀ h ∈ pr, g.program = h.program

theorem ProgramsWf.tail {g : Segment} {gs : List Segment} (h : ProgramsWf (g :: gs)) :
    ProgramsWf gs := by
  intro pr hpr
  cases hg : g.last with
  | true =>
    rw [ProgramsWf, programsOf_cons_of_last hg] at h
    exact h pr (List.mem_cons_of_mem _ hpr)
  | false =>
    rcases programsOf_cons_of_not_last hg gs with ⟨hn, -⟩ | ⟨pr', rest, hp, hc⟩
    · rw [hn] at hpr
      exact absurd hpr List.not_mem_nil
    · rw [ProgramsWf, hc] at h
      rw [hp] at hpr
      rcases List.mem_cons.1 hpr with rfl | hpr
      · obtain ⟨hlen, hsame⟩ := h _ List.mem_cons_self
        refine ⟨(Nat.le_succ _).trans hlen, fun a ha b hb => ?_⟩
        exact hsame a (List.mem_cons_of_mem _ ha) b (List.mem_cons_of_mem _ hb)
      · exact h pr (List.mem_cons_of_mem _ hpr)

theorem ProgramsWf.kept {kept tail : List Segment} (hk : EndsComplete kept)
    (h : ProgramsWf (kept ++ tail)) : ProgramsWf kept := by
  intro pr hpr
  rw [ProgramsWf, programsOf_append hk] at h
  exact h pr (List.mem_append_left _ hpr)

/-- A segment appended joins the incomplete program, whose id it has (R120). -/
theorem ProgramsWf.concat {kept tail : List Segment} {g : Segment} (hk : EndsComplete kept)
    (ht : Unended tail) (h : ProgramsWf (kept ++ tail)) (hlen : tail.length < 12)
    (hid : ∀ x, tail.head? = some x → x.program = g.program) :
    ProgramsWf (kept ++ tail ++ [g]) := by
  intro pr hpr
  rw [List.append_assoc, programsOf_append hk, programsOf_unended_append ht] at hpr
  rw [ProgramsWf, programsOf_append hk] at h
  rcases List.mem_append.1 hpr with hpr | hpr
  · exact h pr (List.mem_append_left _ hpr)
  · obtain rfl := List.mem_singleton.1 hpr
    refine ⟨by rw [List.length_append]; exact hlen, ?_⟩
    have hall : ∀ a ∈ tail ++ [g], a.program = g.program := by
      intro a ha
      rcases List.mem_append.1 ha with ha | ha
      · obtain ⟨x, xs, rfl⟩ := List.exists_cons_of_ne_nil (List.ne_nil_of_mem ha)
        have hsame := (h _ (List.mem_append_right _
          (programsOf_unended ht (List.cons_ne_nil x xs) ▸ List.mem_singleton_self _))).2
        exact (hsame a ha x List.mem_cons_self).trans (hid x rfl)
      · rw [List.mem_singleton.1 ha]
    exact fun a ha b hb => (hall a ha).trans (hall b hb).symm

theorem mismatches_eq_false_iff {gs : List Segment} {g : Segment} : mismatches gs g = false ↔
    ∀ x, (incompleteTail gs).head? = some x → x.program = g.program := by
  unfold mismatches
  cases incompleteTail gs <;> simp

/-! What each operation on the queue leaves. -/

theorem queueWf_iff {q : ProgramQueue} : QueueWf q ↔
    q.segments.length ≤ 16 ∧ (∀ g ∈ q.segments, SegmentWf g) ∧ ProgramsWf q.segments ∧
      ShareWf q.startShare ∧ (q.state = .idle → q.headCount = 0 ∧ q.startShare = none) ∧
      (q.state = .running → (∃ g ∈ q.segments, g.last = true) ∧
        ∀ g, q.segments.head? = some g → q.headCount < g.duration) := Iff.rfl

theorem shareWf_none : ShareWf none := nofun

theorem shareWf_some {v : Int} : ShareWf (some v) ↔ 0 ≤ v ∧ v ≤ 1000 := by
  simp [ShareWf]

theorem queueWf_empty : QueueWf ProgramQueue.empty :=
  ⟨Nat.zero_le _, nofun, nofun, shareWf_none, fun _ => ⟨rfl, rfl⟩, nofun⟩

theorem segmentWf_of_segmentOf {id shape e : Byte} {t d : Half} {g : Segment}
    (h : segmentOf id shape e t d = some g) : SegmentWf g := by
  unfold segmentOf at h
  split at h
  · cases h
  · split at h
    · next hr =>
      obtain ⟨h1, h2, h3, h4⟩ := hr
      obtain rfl := Option.some.inj h
      exact ⟨h1, Nat.le_of_lt_succ id.isLt, h2, h3, h4⟩
    · cases h

theorem queueWf_concat {q : ProgramQueue} {g : Segment} (hq : QueueWf q) (hg : SegmentWf g)
    (hid : mismatches q.segments g = false) (hlen : q.segments.length < 16)
    (htail : (incompleteTail q.segments).length < 12) :
    QueueWf { q with segments := q.segments ++ [g] } := by
  obtain ⟨-, hall, hprog, hshare, hidle, hrun⟩ := queueWf_iff.1 hq
  obtain ⟨kept, tail, hsplit, hk, ht⟩ := exists_complete_append q.segments
  rw [mismatches_eq_false_iff, hsplit, incompleteTail_append hk ht] at hid
  rw [hsplit, incompleteTail_append hk ht] at htail
  refine queueWf_iff.2 ⟨by simpa using hlen, ?_, ?_, hshare, hidle, fun hr => ⟨?_, fun x hx => ?_⟩⟩
  · rintro x hx
    rcases List.mem_append.1 hx with hx | hx
    · exact hall x hx
    · rw [List.mem_singleton.1 hx]; exact hg
  · rw [hsplit] at hprog
    show ProgramsWf (q.segments ++ [g])
    rw [hsplit]
    exact hprog.concat hk ht htail hid
  · obtain ⟨x, hx, hlast⟩ := (hrun hr).1
    exact ⟨x, List.mem_append_left _ hx, hlast⟩
  · obtain ⟨⟨y, hy, -⟩, hhead⟩ := hrun hr
    refine hhead x ?_
    obtain ⟨z, zs, hz⟩ := List.exists_cons_of_ne_nil (List.ne_nil_of_mem hy)
    simpa [hz] using hx

/-- The queue that TOO_LONG leaves (R121). -/
theorem queueWf_tooLong {q : ProgramQueue} (hq : QueueWf q) :
    QueueWf (if withoutIncomplete q.segments = [] then ProgramQueue.empty
      else { q with segments := withoutIncomplete q.segments }) := by
  obtain ⟨hlen, hall, hprog, hshare, hidle, hrun⟩ := queueWf_iff.1 hq
  obtain ⟨kept, tail, hsplit, hk, ht⟩ := exists_complete_append q.segments
  rw [hsplit, withoutIncomplete_append hk ht]
  rw [hsplit] at hlen hall hprog hrun
  split
  · exact queueWf_empty
  · next hne =>
    obtain ⟨k, ks, rfl⟩ := List.exists_cons_of_ne_nil hne
    refine queueWf_iff.2 ⟨?_, fun g hg => hall g (List.mem_append_left _ hg), hprog.kept hk, hshare,
      hidle, fun hr => ⟨hk.exists_last hne, (hrun hr).2⟩⟩
    exact (List.length_append ▸ Nat.le_add_right _ _).trans hlen

theorem queueWf_takeNotice {q : ProgramQueue} (hq : QueueWf q) {share s0 : Int}
    (hshare : 0 ≤ share ∧ share ≤ 1000) (h0 : 0 ≤ s0 ∧ s0 ≤ 1000) :
    QueueWf (takeNotice share s0 q) := by
  obtain ⟨hlen, hall, hprog, hstart, hidle, hrun⟩ := queueWf_iff.1 hq
  cases hstate : q.state with
  | idle => rw [takeNotice_of_idle hstate]; exact hq
  | running =>
    obtain ⟨⟨y, hy, hlast⟩, hhead⟩ := hrun hstate
    obtain ⟨g, rest, hseg⟩ := List.exists_cons_of_ne_nil (List.ne_nil_of_mem hy)
    rw [hseg] at hlen hall hprog hy hhead
    have hlen' : rest.length ≤ 16 := (Nat.le_succ _).trans hlen
    have hall' : ∀ x ∈ rest, SegmentWf x := fun x hx => hall x (List.mem_cons_of_mem _ hx)
    by_cases hcount : q.headCount + 1 < g.duration
    · rw [takeNotice_of_count_lt hstate hseg hcount]
      refine queueWf_iff.2 ⟨hseg ▸ hlen, hseg ▸ hall, hseg ▸ hprog, ?_, ?_, fun _ => ⟨?_, ?_⟩⟩
      · cases hs : q.startShare with
        | none => exact shareWf_some.2 h0
        | some v => exact shareWf_some.2 (hstart v hs)
      · exact fun hi => absurd (hstate.symm.trans hi) nofun
      · exact ⟨y, hseg ▸ hy, hlast⟩
      · intro x hx
        dsimp only at hx
        rw [hseg] at hx
        obtain rfl := Option.some.inj hx
        exact hcount
    · have hend := not_lt.1 hcount
      cases hg : g.last with
      | true =>
        rw [takeNotice_of_program_end hstate hseg hend hg]
        exact ⟨hlen', hall', hprog.tail, shareWf_none, fun _ => ⟨rfl, rfl⟩, nofun⟩
      | false =>
        rw [takeNotice_of_segment_end hstate hseg hend hg]
        refine queueWf_iff.2 ⟨hlen', hall', hprog.tail, shareWf_some.2 hshare, nofun,
          fun _ => ⟨⟨y, ?_, hlast⟩, fun x hx => ?_⟩⟩
        · refine (List.mem_cons.1 hy).resolve_left ?_
          rintro rfl
          exact absurd hlast (by simp [hg])
        · obtain ⟨-, -, -, hd, -⟩ := hall' x (List.mem_of_mem_head? hx)
          exact hd

/-- A program starts at the count 0 of its head segment, with no start share (R123). -/
theorem startProgram_queue (s : State) : (startProgram s).queue =
    if s.queue.state = .idle ∧ headComplete s.queue.segments = true ∧ startConditions s = true then
      { s.queue with state := .running, headCount := 0, startShare := none } else s.queue := by
  unfold startProgram
  simp only [Bool.and_eq_true, decide_eq_true_eq, and_assoc]
  split <;> rfl

theorem headComplete_iff {gs : List Segment} :
    headComplete gs = true ↔ ∃ g ∈ gs, g.last = true := by
  simp [headComplete]

theorem queueWf_startProgram {s : State} (h : QueueWf s.queue) :
    QueueWf (startProgram s).queue := by
  rw [startProgram_queue]
  split
  · next hs =>
    obtain ⟨hlen, hall, hprog, -, -, -⟩ := queueWf_iff.1 h
    refine queueWf_iff.2 ⟨hlen, hall, hprog, shareWf_none, nofun,
      fun _ => ⟨headComplete_iff.1 hs.2.1, fun g hg => ?_⟩⟩
    obtain ⟨-, -, -, hd, -⟩ := hall g (List.mem_of_mem_head? hg)
    exact hd
  · exact h

/-! The base share of a computation (R26). -/

theorem cellAt_mem {cells : Vector Nat 64} (h : ∀ i : Fin 64, cells[i.val] ≤ 1000) (i j : Nat) :
    0 ≤ cellAt cells i j ∧ cellAt cells i j ≤ 1000 := by
  refine ⟨Int.natCast_nonneg _, ?_⟩
  unfold cellAt
  by_cases hk : 8 * i + j < 64
  · rw [Vector.getElem?_eq_getElem hk]
    exact_mod_cast h ⟨_, hk⟩
  · rw [Vector.getElem?_eq_none (not_lt.1 hk)]
    decide

theorem sMap_mem {x : Inputs} (h : ShareInputsWf x) :
    0 ≤ (computeSplit x).sMap ∧ (computeSplit x).sMap ≤ 1000 := by
  have hmap : (computeSplit x).sMap = interpolate x.params
      (if (computeSplit x).dUsed < 0 then x.regenCells else x.driveCells)
      (referenceSpeed x (computeSplit x).dUsed).natAbs (computeSplit x).dUsed.natAbs := rfl
  rw [hmap]
  refine interpolate_mem _ _ _ _ fun a b _ _ => cellAt_mem (fun i => ?_) a b
  split
  · exact (h.1 i).2
  · exact (h.1 i).1

theorem usedStartShare_mem {x : Inputs} (h : ShareInputsWf x) {pr : ProgramInput}
    (hp : x.program = some pr) : 0 ≤ usedStartShare pr (computeSplit x).sMap ∧
      usedStartShare pr (computeSplit x).sMap ≤ 1000 := by
  obtain ⟨-, -, hshare⟩ := h.2 pr hp
  unfold usedStartShare
  cases hs : pr.startShare with
  | none => exact sMap_mem h
  | some v => exact hshare v hs

theorem sBase_mem {x : Inputs} (h : ShareInputsWf x) :
    0 ≤ (computeSplit x).sBase ∧ (computeSplit x).sBase ≤ 1000 := by
  have hbase : (computeSplit x).sBase = baseShare x (computeSplit x).sMap := rfl
  rw [hbase, baseShare]
  cases hp : x.program with
  | none => exact sMap_mem h
  | some pr =>
    obtain ⟨⟨-, -, htarget, -, -⟩, hcount, -⟩ := h.2 pr hp
    obtain ⟨h0, h1⟩ := usedStartShare_mem h hp
    have hmem := segmentShare_mem pr.segment (usedStartShare pr (computeSplit x).sMap)
      (e := pr.count + 1) hcount
    dsimp only
    omega

/-! The inputs of a computation in flight. -/

@[simp] theorem complete_engine (x : Inputs) (s : State) :
    (complete x s).engine = (publish (computeSplit x) s).engine := by simp [complete]

@[simp] theorem publish_inFlight (r : SplitResult) (s : State) :
    (publish r s).engine.inFlight = none := rfl

@[simp] theorem enterRun_engine (s : State) : (enterRun s).engine =
    { s.engine with
      corr := ⟨0, 0⟩
      startMark := s.engine.startMark || s.engine.inFlight.isSome } := by
  simp [enterRun, resetCorrections]

@[simp] theorem writeParam_params (i : Fin 40) (v : Nat) (s : State) :
    (writeParam i v s).params = s.params.write i v := by
  unfold writeParam
  dsimp only
  split
  · simp
  · split <;> simp

@[simp] theorem writeParam_engine (i : Fin 40) (v : Nat) (s : State) : (writeParam i v s).engine =
    { s.engine with
      corr := if i = Param.corrMax then
          ⟨min s.engine.corr.front (v : Int), min s.engine.corr.rear (v : Int)⟩
        else s.engine.corr } := by
  unfold writeParam lowerCorrections
  dsimp only
  split
  · rfl
  · split <;> simp

@[simp] theorem beginInterval_engine (s : State) : (beginInterval s).engine =
    { s.engine with interval := some (s.param Param.periodUs) } := by simp [beginInterval]

@[simp] theorem startComputation_engine (s : State) : (startComputation s).engine =
    { s.engine with inFlight := some (readInputs (startProgram s)) } := by simp [startComputation]

@[simp] theorem resetAsserted_inFlight (shutoff : Bool) (timing : List Timing)
    (pending : List Instr) :
    (resetAsserted shutoff timing pending).engine.inFlight = none := rfl

/-- Of a running queue a computation reads the head segment (R4). -/
theorem readProgram_eq_some {q : ProgramQueue} {pr : ProgramInput} (h : readProgram q = some pr) :
    q.state = .running ∧ q.segments.head? = some pr.segment ∧ q.headCount = pr.count ∧
      q.startShare = pr.startShare := by
  unfold readProgram at h
  split at h
  · next hs hg =>
    obtain rfl := Option.some.inj h
    exact ⟨hs, by rw [hg]; rfl, rfl, rfl⟩
  · cases h
  · cases h

theorem shareInputsWf_readInputs {s : State} (hq : QueueWf s.queue) (hm : MapsWf s.maps) :
    ShareInputsWf (readInputs s) := by
  refine ⟨fun i => ⟨hm _ i, hm _ i⟩, fun pr hpr => ?_⟩
  obtain ⟨hrun, hhead, hcount, hstart⟩ := readProgram_eq_some hpr
  obtain ⟨-, hall, -, hshare, -, hr⟩ := queueWf_iff.1 hq
  exact ⟨hall _ (List.mem_of_mem_head? hhead), hcount ▸ (hr hrun).2 _ hhead, hstart ▸ hshare⟩

/-! The maps (R42, R46). -/

theorem getElem_storeCell_le {cells : Vector Nat 64} {w : Nat × Nat}
    (h : ∀ i : Fin 64, cells[i.val] ≤ 1000) (hw : w.2 ≤ 1000) (i : Fin 64) :
    (storeCell cells w)[i.val] ≤ 1000 := by
  unfold storeCell
  split
  · rw [Vector.getElem_set]
    split
    exacts [hw, h i]
  · exact h i

theorem getElem_storeCells_le {ws : List (Nat × Nat)} (hw : ∀ w ∈ ws, w.2 ≤ 1000) :
    ∀ {cells : Vector Nat 64}, (∀ i : Fin 64, cells[i.val] ≤ 1000) →
      ∀ i : Fin 64, (storeCells cells ws)[i.val] ≤ 1000 := by
  unfold storeCells
  induction ws with
  | nil => exact fun h => h
  | cons w ws ih =>
    intro cells h
    rw [List.foldl_cons]
    exact ih (fun x hx => hw x (List.mem_cons_of_mem _ hx))
      (getElem_storeCell_le h (hw w List.mem_cons_self))

/-- Of a request in range, decoded: the cells it addresses with the first values (R45, R46). -/
theorem cellWrite_eq_some {m st sp n : Byte} {vs : List Half} {w : CellWrite}
    (h : cellWrite m st sp n vs = some w) : ∃ stride, strideOfCode sp = some stride ∧
      1 ≤ n.toNat ∧ n.toNat ≤ 4 ∧ (vs.take n.toNat).all (fun v => decide (v.toNat ≤ 1000)) = true ∧
      w.writes = (addressedCells st.toNat stride n.toNat).zip (vs.map (·.toNat)) := by
  unfold cellWrite at h
  split at h
  · cases h
  · next stride hstride =>
    split at h
    · split at h
      · next hr =>
        obtain ⟨h1, h2, -, -, h5⟩ := hr
        obtain rfl := Option.some.inj h
        exact ⟨stride, hstride, h1, h2, h5, rfl⟩
      · cases h
    · cases h

/-- The k-th value goes with the cell start + k × step (R45). -/
theorem mem_zip_addressedCells {start stride n : Nat} {vs : List Nat} {w : Nat × Nat} :
    w ∈ (addressedCells start stride n).zip vs ↔
      ∃ k, k < n ∧ ∃ hk : k < vs.length, w = (start + k * stride, vs[k]) := by
  rw [List.mem_iff_getElem]
  simp only [addressedCells, List.getElem_zip, List.getElem_map, List.getElem_range,
    List.length_zip,
    List.length_map, List.length_range, lt_min_iff]
  exact ⟨fun ⟨k, h, e⟩ => ⟨k, h.1, h.2, e.symm⟩, fun ⟨k, h1, h2, e⟩ => ⟨k, ⟨h1, h2⟩, e.symm⟩⟩

theorem value_of_mem_zip_addressedCells {start stride n : Nat} {vs : List Half} {w : Nat × Nat}
    (h : w ∈ (addressedCells start stride n).zip (vs.map (·.toNat))) :
    ∃ v ∈ vs.take n, w.2 = v.toNat := by
  obtain ⟨k, hkn, hk, rfl⟩ := mem_zip_addressedCells.1 h
  rw [List.length_map] at hk
  refine ⟨vs[k], List.mem_take_iff_getElem.2 ⟨k, by omega, rfl⟩, by simp⟩

theorem mapsWf_writeMap {m st sp n : Byte} {vs : List Half} {w : CellWrite} {s : State}
    (h : cellWrite m st sp n vs = some w) (hm : MapsWf s.maps) : MapsWf (writeMap w s).maps := by
  obtain ⟨stride, -, -, -, hvalues, hwrites⟩ := cellWrite_eq_some h
  have hle : ∀ x ∈ w.writes, x.2 ≤ 1000 := by
    intro x hx
    rw [hwrites] at hx
    obtain ⟨v, hv, e⟩ := value_of_mem_zip_addressedCells hx
    rw [e]
    exact of_decide_eq_true (List.all_eq_true.1 hvalues v hv)
  intro k i
  simp only [writeMap, State.withMaps_maps, MapStore.map_setMap]
  split
  · exact getElem_storeCells_le hle (hm w.map) i
  · exact hm k i

theorem mapsWf_reset : MapsWf MapStore.reset := by
  intro m i
  simp [MapStore.reset, MapStore.map, Config.resetShare]

/-! Every step. -/

theorem storeDemand_queue (p : Port) (t : Half) (b : Byte) (s : State) :
    (storeDemand p t b s).queue =
      if s.demand.propulsion && !(demandRecord t b).propulsion then ProgramQueue.empty
      else s.queue := by
  unfold storeDemand
  dsimp only
  split
  · rfl
  · simp

theorem passDeadline_queue (p : Port) (ahead : Bool) (s : State) :
    (passDeadline p ahead s).queue = s.queue ∨
      (passDeadline p ahead s).queue = ProgramQueue.empty := by
  unfold passDeadline
  obtain ⟨-, e⟩ | ⟨-, e⟩ := staleEvent_cases p (setDeadline p ⟨.stale, 0, ahead⟩ s)
  · rw [e, setDeadline_queue]
    exact .inl rfl
  · rw [e, enterFault_queue, setDeadline_queue]
    split
    · exact .inr rfl
    · exact .inl rfl

@[simp] theorem abortQueue_queue (s : State) : (abortQueue s).queue = ProgramQueue.empty := rfl

@[simp] theorem enterHalt_queue (s : State) : (enterHalt s).queue = ProgramQueue.empty := by
  simp [enterHalt]

@[simp] theorem enterConfig_queue (s : State) : (enterConfig s).queue = ProgramQueue.empty := by
  simp [enterConfig]

/-- The Program Queue, the maps and the computation in flight are in order. -/
def QueueAndShares (q : ProgramQueue) (maps : MapStore) (inFlight : Option Inputs) : Prop :=
  QueueWf q ∧ MapsWf maps ∧ ∀ x, inFlight = some x → ShareInputsWf x

theorem queueAndShares_keptByEvents :
    KeptByEvents fun s => QueueAndShares s.queue s.maps s.engine.inFlight :=
  have emptied : ∀ {q maps inFlight}, QueueAndShares q maps inFlight →
      QueueAndShares ProgramQueue.empty maps inFlight := fun h => ⟨queueWf_empty, h.2⟩
  .of
    (demand := fun p t b s h => by
      rw [storeDemand_queue, storeDemand_maps, storeDemand_engine]
      split
      · exact emptied h
      · exact h)
    (cells := fun _ _ _ _ _ w s hw _ h => ⟨by simpa using h.1, mapsWf_writeMap hw h.2.1,
      by simpa using h.2.2⟩)
    (select := fun _ _ _ h => h)
    (halt := fun s _ h => by simpa using emptied h)
    (config := fun s _ h => by simpa using emptied h)
    (segment := fun _ _ _ _ _ _ s hg hid hlen htail h =>
      ⟨queueWf_concat h.1 (segmentWf_of_segmentOf hg) hid hlen htail, h.2⟩)
    (tooLong := fun s h => ⟨queueWf_tooLong h.1, h.2⟩)
    (abort := fun s h => emptied h)
    (pass := fun p ahead s _ _ h => by
      rw [passDeadline_maps, passDeadline_engine]
      rcases passDeadline_queue p ahead s with e | e <;> rw [e]
      · exact h
      · exact emptied h)

theorem queueAndShares_complete {x : Inputs} {s : State} (hx : s.engine.inFlight = some x)
    (h : QueueAndShares s.queue s.maps s.engine.inFlight) :
    QueueAndShares (complete x s).queue (complete x s).maps (complete x s).engine.inFlight := by
  refine ⟨?_, by simpa using h.2.1, by simp⟩
  have hshares := h.2.2 x hx
  cases hp : x.program with
  | none => rw [complete_queue_of_map hp]; exact h.1
  | some pr =>
    rw [complete_queue_of_program hp]
    exact queueWf_takeNotice h.1 (sBase_mem hshares) (usedStartShare_mem hshares hp)

theorem queueAndShares_startComputation {s : State}
    (h : QueueAndShares s.queue s.maps s.engine.inFlight) :
    QueueAndShares (startComputation s).queue (startComputation s).maps
      (startComputation s).engine.inFlight := by
  have hq := queueWf_startProgram h.1
  refine ⟨by simpa [startComputation] using hq, by simpa using h.2.1, fun x hx => ?_⟩
  rw [startComputation_engine] at hx
  obtain rfl := Option.some.inj hx
  exact shareInputsWf_readInputs hq (by simpa using h.2.1)

theorem queueAndShares_reset : QueueAndShares ProgramQueue.empty MapStore.reset none :=
  ⟨queueWf_empty, mapsWf_reset, fun _ h => absurd h (by simp)⟩

theorem queueAndShares_kept : Kept fun s => QueueAndShares s.queue s.maps s.engine.inFlight :=
  .of queueAndShares_keptByEvents (fun _ _ _ => queueAndShares_reset)
    (complete := fun _ _ hx h => queueAndShares_complete hx h)
    (compute := fun _ h => queueAndShares_startComputation h)

/-- Settles O9: each operation on the queue keeps R116 and R117, the notice of a completion with
shares in range. -/
theorem stepKeepsTheQueueWellFormed : Obligations.StepKeepsTheQueueWellFormed :=
  fun _ _ hq hs hstep => queueAndShares_kept.ofStep ⟨hq, hs⟩ hstep

end Sys2Proof.Machine
end

section
/-! SUPPORT. What the operations do to the Link Supervisor, the fault records, the device state and
the Demand Record, said once. -/
namespace Sys2Proof.Machine

/-! The Link Supervisor (spec 06, section 6.2). -/

/-- A good frame leaves its port FRESH with its window, while the supervisor is armed (R91, R92). -/
theorem refreshPort_supervisor (p : Port) (s : State) : (refreshPort p s).supervisor =
    if s.supervisor.armed then
      { s.supervisor with
        deadlines := s.supervisor.deadlines.set p
          ⟨.fresh, window s p, (s.supervisor.deadlines.get p).countedAhead⟩ }
    else s.supervisor := by
  obtain ⟨ha, e⟩ | ⟨ha, hf, e⟩ | ⟨ha, -, e⟩ := refreshPort_cases p s
  · rw [e, ha]; rfl
  · rw [e, ha, restartedDeadline, hf.symm]; rfl
  · rw [e, freshEvent_supervisor, ha]; rfl

@[simp] theorem passDeadline_supervisor (p : Port) (ahead : Bool) (s : State) :
    (passDeadline p ahead s).supervisor =
      { s.supervisor with deadlines := s.supervisor.deadlines.set p ⟨.stale, 0, ahead⟩ } := by
  simp [passDeadline, setDeadline]

theorem countDeadlines_supervisor (s : State) : (countDeadlines s).supervisor =
    if s.supervisor.armed then
      { s.supervisor with deadlines := s.supervisor.deadlines.map countedDeadline }
    else s.supervisor := by
  unfold countDeadlines
  dsimp only
  split <;> rfl

theorem enterRun_deadline (s : State) (p : Port) :
    (enterRun s).supervisor.deadlines.get p = armedDeadline s p := by
  cases p <;> rfl

@[simp] theorem enterConfig_supervisor (s : State) :
    (enterConfig s).supervisor = Supervisor.disarmed := by simp [enterConfig]

@[simp] theorem disarmed_get (p : Port) : Supervisor.disarmed.deadlines.get p = Deadline.idle := by
  cases p <;> rfl

theorem armedDeadline_freshness (s : State) (p : Port) :
    (armedDeadline s p).freshness = (s.supervisor.deadlines.get p).freshness := by
  unfold armedDeadline restartedDeadline
  split <;> rfl

theorem countedDeadline_freshness (d : Deadline) : (countedDeadline d).freshness = d.freshness := by
  unfold countedDeadline
  split
  · rfl
  · split <;> rfl

theorem countedDeadline_remaining_le (d : Deadline) :
    (countedDeadline d).remaining ≤ d.remaining := by
  unfold countedDeadline
  split
  · exact le_rfl
  · split
    exacts [Nat.sub_le _ _, le_rfl]

/-! The fault records (spec 09). -/

theorem linkFault_inj {p q : Port} (h : linkFault p = linkFault q) : p = q := by
  cases p <;> cases q <;> simp_all [linkFault]

theorem refreshPort_get (p : Port) (g : FaultId) (s : State) : (refreshPort p s).faults.get g =
    if s.supervisor.armed = true ∧ (s.supervisor.deadlines.get p).freshness = .stale ∧
        g = linkFault p ∧ (s.faults.get g).state = .active then
      { s.faults.get g with state := .clear, count := 0 }
    else s.faults.get g := by
  obtain ⟨ha, e⟩ | ⟨-, hf, e⟩ | ⟨ha, hf, e⟩ := refreshPort_cases p s
  · rw [e, ha]; simp
  · rw [e, hf]; simp
  · obtain ⟨hactive, e'⟩ | ⟨hactive, e'⟩ := freshEvent_cases p (setDeadline p
      { s.supervisor.deadlines.get p with freshness := .fresh, remaining := window s p } s)
    · rw [e, e', clearFault_get]
      rw [setDeadline_faults] at hactive ⊢
      by_cases hg : g = linkFault p
      · subst hg; simp [ha, hf, hactive]
      · simp [hg]
    · rw [e, e']
      rw [setDeadline_faults] at hactive ⊢
      by_cases hg : g = linkFault p
      · subst hg; simp [hactive]
      · simp [hg]

theorem passDeadline_get (p : Port) (ahead : Bool) (g : FaultId) (s : State) :
    (passDeadline p ahead s).faults.get g =
      if g = linkFault p ∧ (s.faults.get g).state.inForce = false then
        { s.faults.get g with state := inForceState g }
      else s.faults.get g := by
  unfold passDeadline
  obtain ⟨hin, e⟩ | ⟨hin, e⟩ := staleEvent_cases p (setDeadline p ⟨.stale, 0, ahead⟩ s) <;>
    rw [setDeadline_faults] at hin
  · rw [e, setDeadline_faults]
    by_cases hg : g = linkFault p
    · subst hg; simp [hin]
    · simp [hg]
  · rw [e, enterFault_get, setDeadline_faults]
    by_cases hg : g = linkFault p
    · subst hg; simp [hin]
    · simp [hg]

theorem releaseFault_get (f g : FaultId) (s : State) : (releaseFault f s).faults.get g =
    if g = f ∧ (s.faults.get g).state = .latched ∧ conditionPresent s g = false then
      { s.faults.get g with state := .clear, count := 0 }
    else s.faults.get g := by
  unfold releaseFault latched
  by_cases hg : g = f
  · subst hg
    cases hc : conditionPresent s g <;> by_cases hl : (s.faults.get g).state = .latched <;>
      simp [hl, clearFault_get]
  · split <;> simp [clearFault_get, hg]

theorem enterConfig_get (g : FaultId) (s : State) : (enterConfig s).faults.get g =
    if g = .linkV ∨ g = .linkS then { s.faults.get g with state := .clear, count := 0 }
    else s.faults.get g := by
  have hfaults : (enterConfig s).faults =
      (clearLinkFaults (((abortQueue (setMode .config s)).withTable []).withSupervisor
        Supervisor.disarmed)).faults := by simp [enterConfig]
  rw [hfaults, clearLinkFaults, clearFault_get, clearFault_get, clearFault_get]
  cases g <;> simp

/-- A completion keeps the link faults, and hands every other fault its observation (R16, R17). -/
theorem complete_get (x : Inputs) (g : FaultId) (s : State) :
    ((∃ p, linkFault p = g) ∧ (complete x s).faults.get g = s.faults.get g) ∨
      ((∀ p, linkFault p ≠ g) ∧ ∃ present, (complete x s).faults.get g =
        observedRecord (inForceState g) (qualification s g) present (s.faults.get g)) := by
  rw [complete_faults, handObservations_get]
  cases g
  case linkV => exact .inl ⟨⟨.pv, rfl⟩, rfl⟩
  case linkF => exact .inl ⟨⟨.pf, rfl⟩, rfl⟩
  case linkR => exact .inl ⟨⟨.pr, rfl⟩, rfl⟩
  case linkS => exact .inl ⟨⟨.ps, rfl⟩, rfl⟩
  all_goals exact .inr ⟨fun p => by cases p <;> nofun, _, rfl⟩

/-! The device state (spec 10) and the Demand Record (spec 06). -/

@[simp] theorem enterRun_mode (s : State) : (enterRun s).mode = ⟨.run, true⟩ := by simp [enterRun]

@[simp] theorem enterHalt_mode (s : State) :
    (enterHalt s).mode = { s.mode with state := .halt } := by simp [enterHalt, setMode]

@[simp] theorem enterConfig_mode (s : State) :
    (enterConfig s).mode = { s.mode with state := .config } := by simp [enterConfig, setMode]

@[simp] theorem storeDemand_demand (p : Port) (t : Half) (b : Byte) (s : State) :
    (storeDemand p t b s).demand = demandRecord t b := by
  unfold storeDemand
  dsimp only
  split <;> simp

end Sys2Proof.Machine
end

section
/-! PROOFS, spec 08: the conditions of a running program. What each operation does to the program
state, the device state, the Demand Record and LINK_V; the obligation is assembled with the chain of
operations. -/
namespace Sys2Proof.Machine

/-- While the queue is RUNNING the three conditions of R123 hold. -/
def RunsUnder (q : ProgramQueue) (m : ModeController) (d : DemandRecord)
    (fs : PerFault FaultRecord) :
    Prop :=
  q.state = .running → m.state = .run ∧ d.propulsion = true ∧ (fs.get .linkV).state ≠ .active

theorem runningConditions_iff (s : State) :
    RunningConditions s ↔ RunsUnder s.queue s.mode s.demand s.faults := Iff.rfl

theorem runsUnder_empty (m : ModeController) (d : DemandRecord) (fs : PerFault FaultRecord) :
    RunsUnder ProgramQueue.empty m d fs := nofun

theorem RunsUnder.queue {q q' : ProgramQueue} {m : ModeController} {d : DemandRecord}
    {fs : PerFault FaultRecord} (h : RunsUnder q m d fs)
    (hq : q'.state = .running → q.state = .running) : RunsUnder q' m d fs := fun hr => h (hq hr)

theorem RunsUnder.faults {q : ProgramQueue} {m : ModeController} {d : DemandRecord}
    {fs fs' : PerFault FaultRecord} (h : RunsUnder q m d fs)
    (hfs : (fs'.get .linkV).state = .active → (fs.get .linkV).state = .active) :
    RunsUnder q m d fs' := fun hr =>
  have ⟨hm, hd, hv⟩ := h hr
  ⟨hm, hd, fun ha => hv (hfs ha)⟩

/-- DEMAND with propulsion OFF has emptied the queue of a program that ran with propulsion ON
(R87). -/
theorem runsUnder_storeDemand {s : State} (p : Port) (t : Half) (b : Byte)
    (h : RunsUnder s.queue s.mode s.demand s.faults) :
    RunsUnder (storeDemand p t b s).queue (storeDemand p t b s).mode (storeDemand p t b s).demand
      (storeDemand p t b s).faults := by
  rw [storeDemand_queue, storeDemand_mode, storeDemand_demand, storeDemand_faults]
  split
  · exact runsUnder_empty _ _ _
  · next hkeep =>
    intro hr
    obtain ⟨hm, hd, hv⟩ := h hr
    exact ⟨hm, by simpa [hd] using hkeep, hv⟩

/-- The stale event of PV empties the queue as it enters LINK_V; the other link faults are not
LINK_V's. -/
theorem runsUnder_passDeadline {s : State} (p : Port) (ahead : Bool)
    (h : RunsUnder s.queue s.mode s.demand s.faults) :
    RunsUnder (passDeadline p ahead s).queue (passDeadline p ahead s).mode
      (passDeadline p ahead s).demand (passDeadline p ahead s).faults := by
  rw [passDeadline_mode, passDeadline_demand]
  unfold passDeadline
  obtain ⟨-, e⟩ | ⟨-, e⟩ := staleEvent_cases p (setDeadline p ⟨.stale, 0, ahead⟩ s)
  · rw [e, setDeadline_queue, setDeadline_faults]
    exact h
  · rw [e, enterFault_queue, setDeadline_queue]
    split
    · exact runsUnder_empty _ _ _
    · next hkeep =>
      refine h.faults ?_
      rw [enterFault_get, setDeadline_faults, if_neg]
      · exact id
      · rintro hp
        rw [← hp] at hkeep
        exact hkeep rfl

theorem runsUnder_complete {s : State} (x : Inputs)
    (h : RunsUnder s.queue s.mode s.demand s.faults) :
    RunsUnder (complete x s).queue (complete x s).mode (complete x s).demand
      (complete x s).faults := by
  rw [complete_mode, complete_demand]
  obtain ⟨-, e⟩ | ⟨hno, -⟩ := complete_get x .linkV s
  · refine RunsUnder.faults (h.queue fun hr => ?_) (by rw [e]; exact id)
    by_contra hidle
    have hi : s.queue.state = .idle := by cases hs : s.queue.state with
      | idle => rfl
      | running => exact absurd hs hidle
    rw [complete_queue_of_idle hi] at hr
    exact hidle hr
  · exact absurd rfl (hno .pv)

theorem startConditions_iff (s : State) : startConditions s = true ↔ s.mode.state = .run ∧
    s.demand.propulsion = true ∧ (s.faults.get .linkV).state ≠ .active := by
  simp [startConditions, and_assoc]

theorem runsUnder_startComputation {s : State} (h : RunsUnder s.queue s.mode s.demand s.faults) :
    RunsUnder (startComputation s).queue (startComputation s).mode (startComputation s).demand
      (startComputation s).faults := by
  have hq : (startComputation s).queue = (startProgram s).queue := rfl
  rw [hq, startComputation_mode, startComputation_demand, startComputation_faults,
    startProgram_queue]
  split
  · next hs => exact fun _ => (startConditions_iff s).1 hs.2.2
  · exact h

theorem runsUnder_keptByEvents :
    KeptByEvents fun s => RunsUnder s.queue s.mode s.demand s.faults :=
  .of
    (refresh := fun p s h => by
      rw [refreshPort_queue, refreshPort_mode, refreshPort_demand]
      refine h.faults ?_
      rw [refreshPort_get]
      split
      · exact nofun
      · exact id)
    (demand := fun p t b s h => runsUnder_storeDemand p t b h)
    (run := fun s hm _ _ h hr => absurd (h (by simpa using hr)).1 hm)
    (halt := fun s _ _ => by simpa using runsUnder_empty _ _ _)
    (config := fun s _ _ => by simpa using runsUnder_empty _ _ _)
    (release := fun f s h => by
      rw [releaseFault_queue, releaseFault_mode, releaseFault_demand]
      refine h.faults ?_
      rw [releaseFault_get]
      split
      · exact nofun
      · exact id)
    (segment := fun _ _ _ _ _ _ _ _ _ _ _ h => h)
    (tooLong := fun s h => h.queue (by
      rw [State.withQueue_queue]
      split
      · exact nofun
      · exact id))
    (abort := fun _ _ => runsUnder_empty _ _ _)
    (pass := fun p ahead _ _ _ h => runsUnder_passDeadline p ahead h)

theorem runsUnder_kept : Kept fun s => RunsUnder s.queue s.mode s.demand s.faults :=
  .of runsUnder_keptByEvents (fun _ _ _ => runsUnder_empty _ _ _)
    (complete := fun x _ _ h => runsUnder_complete x h)
    (compute := fun _ h => runsUnder_startComputation h)

/-- Settles O10: what would end a condition of a running program empties the queue at the same
event. -/
theorem runningProgramsKeepTheirConditions : Obligations.RunningProgramsKeepTheirConditions :=
  fun s t hs hstep => (runningConditions_iff t).2
    (runsUnder_kept.ofStep ((runningConditions_iff s).1 hs) hstep)

end Sys2Proof.Machine
end

section
/-! PROOFS, spec 04: the range of the slip corrections. First the governor's corrections and what a
completion writes of them; the obligation is assembled with the chain of operations. -/
namespace Sys2Proof.Machine

theorem slipStep_pos (kUp : Nat) (excess : Int) : 0 < slipStep kUp excess :=
  lt_of_lt_of_le one_pos (le_max_left _ _)

/-- The governor keeps a correction nonnegative, rising or falling (R58, R59). -/
theorem governed_nonneg (ps : Params) {c : Int} (h : 0 ≤ c) (e : Int) : 0 ≤ governed ps c e := by
  rcases le_or_gt e (ps.read Param.sTgt : Int) with he | he
  · rw [governed_of_le he]
    exact le_max_left _ _
  · rw [governed_of_lt he]
    exact le_min (Int.natCast_nonneg _) (add_nonneg h (slipStep_pos _ _).le)

theorem computeSplit_corr_nonneg {x : Inputs} (h : ∀ a, 0 ≤ x.corr.get a) (a : Axle) :
    0 ≤ (computeSplit x).corr.get a := by
  rw [computeSplit_corr]
  exact governed_nonneg _ (h a) _

theorem writtenCorr_mem (s : State) {c : Int} (h : 0 ≤ c) :
    0 ≤ writtenCorr s c ∧ writtenCorr s c ≤ (s.param Param.corrMax : Int) := by
  unfold writtenCorr
  split
  · exact ⟨le_rfl, Int.natCast_nonneg _⟩
  · exact ⟨le_min h (Int.natCast_nonneg _), min_le_right _ _⟩

/-- The corrections, CORR_MAX and the computation in flight are in order (R60). -/
def CorrectionsIn (corr : PerAxle Int) (ps : Params) (inFlight : Option Inputs) : Prop :=
  (∀ a, 0 ≤ corr.get a ∧ corr.get a ≤ (ps.read Param.corrMax : Int)) ∧
    ∀ x, inFlight = some x → ∀ a, 0 ≤ x.corr.get a

theorem correctionsWf_iff (s : State) :
    CorrectionsWf s ↔ CorrectionsIn s.engine.corr s.params s.engine.inFlight := Iff.rfl

theorem zero_mem_corrections (ps : Params) (a : Axle) :
    0 ≤ (PerAxle.mk 0 0 : PerAxle Int).get a ∧
      (PerAxle.mk 0 0 : PerAxle Int).get a ≤ (ps.read Param.corrMax : Int) := by
  cases a <;> exact ⟨le_rfl, Int.natCast_nonneg _⟩

/-- A lower CORR_MAX lowers the corrections with it; another parameter leaves CORR_MAX (R60,
R163). -/
theorem correctionsIn_writeParam {s : State} (i : Fin 40) (v : Nat)
    (h : CorrectionsIn s.engine.corr s.params s.engine.inFlight) :
    CorrectionsIn (writeParam i v s).engine.corr (writeParam i v s).params
      (writeParam i v s).engine.inFlight := by
  rw [writeParam_engine, writeParam_params]
  refine ⟨fun a => ?_, h.2⟩
  dsimp only
  rw [Params.read_write]
  by_cases hi : i = Param.corrMax
  · subst hi
    rw [if_pos rfl, if_pos rfl]
    have hc := h.1 a
    cases a <;> exact ⟨le_min hc.1 (Int.natCast_nonneg _), min_le_right _ _⟩
  · rw [if_neg hi, if_neg (Ne.symm hi)]
    exact h.1 a

theorem correctionsIn_complete {x : Inputs} {s : State} (hx : s.engine.inFlight = some x)
    (h : CorrectionsIn s.engine.corr s.params s.engine.inFlight) :
    CorrectionsIn (complete x s).engine.corr (complete x s).params
      (complete x s).engine.inFlight := by
  rw [complete_engine, complete_params]
  refine ⟨fun a => ?_, fun y hy => absurd hy (by simp)⟩
  have hc := writtenCorr_mem s (computeSplit_corr_nonneg (h.2 x hx) a)
  cases a <;> exact hc

theorem correctionsIn_keptByEvents :
    KeptByEvents fun s => CorrectionsIn s.engine.corr s.params s.engine.inFlight :=
  .of (param := fun i v _ _ _ _ h => correctionsIn_writeParam i v h)
    (run := fun s _ _ _ h => by
      rw [enterRun_engine, enterRun_params]
      exact ⟨zero_mem_corrections _, h.2⟩)

theorem correctionsIn_kept :
    Kept fun s => CorrectionsIn s.engine.corr s.params s.engine.inFlight :=
  .of correctionsIn_keptByEvents
    (fun _ _ _ => ⟨zero_mem_corrections _, fun y hy => absurd hy (by simp)⟩)
    (complete := fun _ _ hx h => correctionsIn_complete hx h)
    (compute := fun s h => by
      rw [startComputation_engine, startComputation_params]
      refine ⟨h.1, fun x hx a => ?_⟩
      obtain rfl := Option.some.inj hx
      simpa [readInputs] using (h.1 a).1)

/-- Settles O11: what is written is at most CORR_MAX as it stands, and the governor stays at 0 or
above. -/
theorem correctionsStayWithinCorrMax : Obligations.CorrectionsStayWithinCorrMax :=
  fun s t hs hstep => (correctionsWf_iff t).2
    (correctionsIn_kept.ofStep ((correctionsWf_iff s).1 hs) hstep)

end Sys2Proof.Machine
end

section
/-! PROOFS, spec 01: the publication. First what a computation hands to its record and to the
AXLE_CMD frames, then the record and the frames that a completion leaves; the obligation is
assembled with the chain of operations. -/
namespace Sys2Proof.Machine

/-! The commands of a computation against its requests and limits. -/

theorem computeSplit_available (x : Inputs) (a : Axle) :
    (computeSplit x).available.get a = available x a := by cases a <;> rfl

/-- The rise parameter of an axle (R39). -/
def riseParam : Axle → Fin 40
  | .front => Param.riseF
  | .rear => Param.riseR

theorem computeSplit_command (x : Inputs) (a : Axle) : (computeSplit x).command.get a =
    rateLimited (x.params.read (riseParam a)) (x.prev.get a) ((computeSplit x).request.get a) := by
  cases a <;> rfl

theorem mag_command_le_request (x : Inputs) (a : Axle) :
    mag ((computeSplit x).command.get a) ≤ mag ((computeSplit x).request.get a) := by
  rw [computeSplit_command]
  exact mag_rateLimited_le _ _ _

theorem mag_request_le_limit (x : Inputs) (a : Axle) :
    mag ((computeSplit x).request.get a) ≤ (computeSplit x).limit.get a := by
  rw [mag_request]
  exact splitMag_le_limit _ a

theorem eq_zero_of_mag_le_zero {v : Int} (h : mag v ≤ 0) : v = 0 := by
  unfold mag at h
  omega

theorem command_eq_zero_or_sign (x : Inputs) (a : Axle) : (computeSplit x).command.get a = 0 ∨
    ((computeSplit x).command.get a).sign = (computeSplit x).dUsed.sign := by
  rcases request_eq_zero_or_sign x a with h0 | hs
  · have hle := mag_command_le_request x a
    rw [h0, mag_zero] at hle
    exact .inl (eq_zero_of_mag_le_zero hle)
  · rw [computeSplit_command, ← hs]
    exact rateLimited_eq_zero_or_sign _ _ _

theorem dUsed_le_totalCap {x : Inputs} {c : Int} (h : (computeSplit x).totalCap = some c) :
    mag (computeSplit x).dUsed ≤ c := by
  rw [computeSplit_totalCap] at h
  obtain ⟨m, hm, rfl⟩ := Option.map_eq_some_iff.1 h
  rw [computeSplit_dUsed, hm, mag_cappedDemand]
  exact min_le_right _ _

/-- A computation that started outside RUN has no demand, and so no command (R20). -/
theorem command_eq_zero_of_idle {x : Inputs} (h : (computeSplit x).flags.idle = true) (a : Axle) :
    (computeSplit x).command.get a = 0 := by
  have hidle : (computeSplit x).flags.idle = (formDemand x).idle := rfl
  rw [hidle, formDemand_idle] at h
  have hd : (computeSplit x).dUsed = 0 := by
    rw [computeSplit_dUsed, formDemand_d0, if_pos (.inl (by simpa using h))]
    unfold cappedDemand
    split
    · rfl
    · split <;> simp
  have hle := (mag_command_le_request x a).trans_eq
    ((mag_request x a).trans (splitMag_of_dUsed_zero hd a))
  exact eq_zero_of_mag_le_zero hle

/-! The sent commands (R6). -/

theorem sentCommands_eq_zero_or (m : Mode) (c : PerAxle Int) (a : Axle) :
    (sentCommands m c).get a = 0 ∨ (sentCommands m c).get a = c.get a := by
  unfold sentCommands
  split
  · exact .inr rfl
  · cases a <;> exact .inl rfl

theorem mag_sentCommands_le (m : Mode) (c : PerAxle Int) (a : Axle) :
    mag ((sentCommands m c).get a) ≤ mag (c.get a) := by
  rcases sentCommands_eq_zero_or m c a with h | h <;> rw [h]
  exact mag_nonneg _

theorem sentCommands_of_idle {m : Mode} {x : Inputs}
    (h : (completionFlags m (computeSplit x).flags).idle = true) :
    sentCommands m (computeSplit x).command = ⟨0, 0⟩ := by
  unfold sentCommands
  split
  · next hm =>
    subst hm
    have hidle : (computeSplit x).flags.idle = true := by simpa [completionFlags] using h
    apply PerAxle.ext_get
    intro a
    rw [command_eq_zero_of_idle hidle a]
    cases a <;> rfl
  · rfl

/-! The record and the frames that a completion leaves. -/

theorem completedRecord_sent (s : State) (x : Inputs) :
    (completedRecord s (computeSplit x)).sent =
      sentCommands s.mode.state (computeSplit x).command :=
  rfl

theorem recordWf_completedRecord (s : State) (x : Inputs) :
    RecordWf (completedRecord s (computeSplit x)) := by
  obtain ⟨h0, h1⟩ := sFinal_mem_range x
  refine ⟨h0, h1, fun a => ⟨?_, mag_request_le_limit x a⟩, fun a =>
    ⟨request_eq_zero_or_sign x a, ?_⟩, ?_, shortfall_nonneg x, fun c => dUsed_le_totalCap,
    sentCommands_of_idle⟩
  · exact (mag_sentCommands_le _ _ a).trans (mag_command_le_request x a)
  · rw [completedRecord_sent]
    rcases sentCommands_eq_zero_or s.mode.state (computeSplit x).command a with h | h
    · exact .inl h
    · rw [h]
      exact command_eq_zero_or_sign x a
  · have hf := mag_request_front x
    have hr := mag_request_rear x
    have hs := computeSplit_shortfall x
    show mag (computeSplit x).request.front + mag (computeSplit x).request.rear +
      (computeSplit x).shortfall = mag (computeSplit x).dUsed
    omega

theorem complete_record (x : Inputs) (s : State) :
    (complete x s).engine.record = completedRecord s (computeSplit x) := by
  rw [complete_engine]
  rfl

theorem complete_commands (x : Inputs) (s : State) : (complete x s).commands =
    ⟨some (axleCommand s.mode.state (computeSplit x).available (completedRecord s (computeSplit x))
        .front),
      some (axleCommand s.mode.state (computeSplit x).available (completedRecord s (computeSplit x))
        .rear)⟩ := by
  simp only [complete, cadence_commands, handNotice_commands, handObservations_commands]
  rfl

theorem axleCmdWf_axleCommand (s : State) (x : Inputs) (a : Axle) :
    AxleCmdWf (axleCommand s.mode.state (computeSplit x).available
      (completedRecord s (computeSplit x)) a) := by
  have hle : mag ((sentCommands s.mode.state (computeSplit x).command).get a) ≤
      (computeSplit x).limit.get a :=
    (mag_sentCommands_le _ _ a).trans
      ((mag_command_le_request x a).trans (mag_request_le_limit x a))
  refine ⟨fun hm => ?_, fun ha => ?_, hle⟩
  · have hsent : sentCommands s.mode.state (computeSplit x).command = ⟨0, 0⟩ := if_neg hm
    show (sentCommands s.mode.state (computeSplit x).command).get a = 0
    rw [hsent]
    cases a <;> rfl
  · have hlimit := limit_of_unavailable ((computeSplit_available x a).symm.trans ha)
    exact ⟨eq_zero_of_mag_le_zero (hlimit ▸ hle), hlimit⟩

/-! Every step. -/

theorem complete_prevAgrees (x : Inputs) (s : State) : PrevAgrees (complete x s) := by
  unfold PrevAgrees
  rw [complete_engine]
  exact ⟨rfl, rfl⟩

/-- P_f, P_r and the period number are those of the record. -/
def PrevIn (prev : PerAxle Int) (n : BitVec 16) (r : SplitRecord) : Prop :=
  prev = r.sent ∧ r.periodNumber = n

theorem prevIn_kept :
    Kept fun s => PrevIn s.engine.prev s.engine.periodNumber s.engine.record :=
  .of .of (fun _ _ _ => ⟨rfl, rfl⟩) (complete := fun x s _ _ => complete_prevAgrees x s)

theorem recordWf_reset : RecordWf SplitRecord.reset := by
  have hzero : ∀ a, (PerAxle.mk 0 0 : PerAxle Int).get a = 0 := by rintro (_ | _) <;> rfl
  exact ⟨le_rfl, by decide, fun a => by cases a <;> exact ⟨le_rfl, le_rfl⟩,
    fun a => ⟨.inl (hzero a), .inl (hzero a)⟩, rfl, le_rfl,
    fun _ h => absurd h (by simp [SplitRecord.reset]), fun _ => rfl⟩

theorem recordWf_kept : Kept fun s => RecordWf s.engine.record :=
  .of .of (fun _ _ _ => recordWf_reset)
    (complete := fun x s _ _ => complete_record x s ▸ recordWf_completedRecord s x)

/-- The frames in the command slots are in order (R6, R14). -/
def SlotsWf (cs : PerAxle (Option AxleCmd)) : Prop := ∀ a c, cs.get a = some c → AxleCmdWf c

theorem slotsWf_startTransmitter (p : Port) {s : State} (h : SlotsWf s.commands) :
    SlotsWf (startTransmitter p s).commands := by
  intro a c hc
  rw [startTransmitter_command] at hc
  split at hc
  · cases hc
  · exact h a c hc

theorem slotsWf_complete (x : Inputs) (s : State) : SlotsWf (complete x s).commands := by
  rintro a c hc
  have hslot : (complete x s).commands.get a = some (axleCommand s.mode.state
      (computeSplit x).available (completedRecord s (computeSplit x)) a) := by
    rw [complete_commands]
    cases a <;> rfl
  rw [hslot] at hc
  obtain rfl := Option.some.inj hc
  exact axleCmdWf_axleCommand s x a

theorem slotsWf_empty : SlotsWf ⟨none, none⟩ := by
  rintro (_ | _) c hc <;> cases hc

theorem slotsWf_kept : Kept fun s => SlotsWf s.commands :=
  .of (.of (choose := fun p _ h => slotsWf_startTransmitter p h)) (fun _ _ _ => slotsWf_empty)
    (complete := fun x s _ _ => slotsWf_complete x s)

/-- Settles O12: only a completion publishes and places AXLE_CMD frames, and what it leaves is in
bounds. -/
theorem publicationKeepsItsBounds : Obligations.PublicationKeepsItsBounds :=
  ⟨fun _ _ hs hstep => prevIn_kept.ofStep hs hstep,
    fun _ _ hs hstep => recordWf_kept.ofStep hs hstep,
    fun _ _ hs hstep => slotsWf_kept.ofStep hs hstep⟩

end Sys2Proof.Machine
end

section
/-! PROOFS, spec 06 and spec 10: the supervisor against the device state, and the parameters outside
CONFIG. -/
namespace Sys2Proof.Machine

/-- The Link Supervisor and the device state are in order (R89, R90, R93). -/
def SupervisorIn (v : Supervisor) (m : ModeController) : Prop :=
  (v.armed = true ↔ m.state ≠ .config) ∧ (v.armed = false → v = Supervisor.disarmed) ∧
    ∀ p, (v.deadlines.get p).freshness = .stale → (v.deadlines.get p).remaining = 0

/-- While armed, a change of one deadline keeps the rules, where a STALE one has no period
remaining. -/
theorem SupervisorIn.set {v : Supervisor} {m : ModeController} (h : SupervisorIn v m)
    (ha : v.armed = true) (p : Port) {d : Deadline} (hd : d.freshness = .stale → d.remaining = 0) :
    SupervisorIn { v with deadlines := v.deadlines.set p d } m := by
  refine ⟨h.1, fun hn => absurd hn (by simp [ha]), fun q => ?_⟩
  rw [PerPort.get_set]
  split
  exacts [hd, h.2.2 q]

theorem SupervisorIn.mode {v : Supervisor} {m m' : ModeController} (h : SupervisorIn v m)
    (hm : m.state ≠ .config) (hm' : m'.state ≠ .config) : SupervisorIn v m' :=
  ⟨h.1.trans (iff_of_true hm hm'), h.2⟩

theorem supervisorIn_disarmed {m : ModeController} (h : m.state = .config) :
    SupervisorIn Supervisor.disarmed m :=
  ⟨iff_of_false nofun (not_not_intro h), fun _ => rfl, fun p hp => by
    rw [disarmed_get] at hp
    cases hp⟩

theorem supervisorIn_refresh (p : Port) {s : State} (h : SupervisorIn s.supervisor s.mode) :
    SupervisorIn (refreshPort p s).supervisor (refreshPort p s).mode := by
  rw [refreshPort_supervisor, refreshPort_mode]
  split
  · next ha => exact h.set ha p nofun
  · exact h

theorem supervisorIn_enterRun {s : State} (h : SupervisorIn s.supervisor s.mode) :
    SupervisorIn (enterRun s).supervisor (enterRun s).mode := by
  refine ⟨iff_of_true rfl (by simp), nofun, fun p hp => ?_⟩
  rw [enterRun_deadline] at hp ⊢
  rw [armedDeadline_freshness] at hp
  rw [armedDeadline, hp]
  exact h.2.2 p hp

theorem supervisorIn_countDeadlines {s : State} (h : SupervisorIn s.supervisor s.mode) :
    SupervisorIn (countDeadlines s).supervisor (countDeadlines s).mode := by
  rw [countDeadlines_supervisor, countDeadlines_mode]
  split
  · next ha =>
    refine ⟨h.1, fun hn => absurd hn (by simp [ha]), fun p hp => ?_⟩
    rw [PerPort.get_map] at hp ⊢
    rw [countedDeadline_freshness] at hp
    exact Nat.le_zero.1 (h.2.2 p hp ▸ countedDeadline_remaining_le _)
  · exact h

theorem supervisorIn_kept : Kept fun s => SupervisorIn s.supervisor s.mode :=
  .of
    (.of (refresh := fun p _ h => supervisorIn_refresh p h)
      (run := fun _ _ _ _ h => supervisorIn_enterRun h)
      (halt := fun s hm h => by
        rw [enterHalt_supervisor, enterHalt_mode]
        exact h.mode (by simp [hm]) nofun)
      (config := fun s _ _ => by
        rw [enterConfig_supervisor, enterConfig_mode]
        exact supervisorIn_disarmed rfl)
      (pass := fun p ahead s ha _ h => by
        rw [passDeadline_supervisor, passDeadline_mode]
        exact h.set ha p fun _ => rfl))
    (fun _ _ _ => supervisorIn_disarmed rfl)
    (count := fun _ h => supervisorIn_countDeadlines h)

/-- Outside CONFIG the parameters are consistent and the window lock is set (R153, R160). -/
def ConsistentIn (m : ModeController) (ps : Params) : Prop :=
  m.state ≠ .config → consistent ps = true ∧ m.windowLock = true

theorem consistentIn_kept : Kept fun s => ConsistentIn s.mode s.params :=
  .of
    (.of (param := fun i v s hm _ _ _ hn => absurd (by simpa using hm) hn)
      (run := fun s _ _ hc _ _ => ⟨by simpa using hc, by simp⟩)
      (halt := fun s hm h _ => by
        rw [enterHalt_params, enterHalt_mode]
        exact h (by simp [hm]))
      (config := fun s _ _ hn => absurd (by simp) hn))
    (fun _ _ _ hn => absurd rfl hn)

/-- Settles O13: the entries into RUN and CONFIG arm and disarm, and no parameter is written outside
CONFIG. -/
theorem modeRulesSupervisorLockAndParameters : Obligations.ModeRulesSupervisorLockAndParameters :=
  ⟨fun _ _ hs hstep => supervisorIn_kept.ofStep hs hstep,
    fun _ _ hs hstep => consistentIn_kept.ofStep hs hstep⟩

end Sys2Proof.Machine
end

section
/-! PROOFS, spec 09: the fault records. First one record by its class, through each fault
transition; then the link faults against their ports; the obligation is assembled with the chain of
operations. -/
namespace Sys2Proof.Machine

/-- The fault is a port's link fault (R133). -/
def IsLink (f : FaultId) : Prop := ∃ p, linkFault p = f

/-- One record by its fault's class: in force in its class's state alone, a link fault never
counted, a CLEAR fault with count 0 (R134, R135). -/
def FaultRecordWf (f : FaultId) (r : FaultRecord) : Prop :=
  (r.state.inForce = true → r.state = inForceState f) ∧
    (IsLink f → r.state ≠ .pending ∧ r.count = 0) ∧ (r.state = .clear → r.count = 0)

theorem faultsWf_iff (fs : PerFault FaultRecord) :
    FaultsWf fs ↔ ∀ f, FaultRecordWf f (fs.get f) := by
  constructor
  · rintro ⟨hself, hlatching, hlink, hclear⟩ f
    refine ⟨fun hin => ?_, ?_, hclear f⟩
    · have hl := hlatching f
      have hs := hself f
      rcases (FaultState.inForce_iff _).1 hin with h | h <;> cases f <;> simp_all [inForceState]
    · rintro ⟨p, rfl⟩
      exact hlink p
  · intro h
    refine ⟨fun f hf hl => ?_, fun f hf ha => ?_, fun p => (h _).2.1 ⟨p, rfl⟩, fun f => (h f).2.2⟩
    · have := (h f).1 (by rw [hl]; rfl)
      rw [hl] at this
      rcases hf with rfl | rfl | rfl | rfl <;> cases this
    · have := (h f).1 (by rw [ha]; rfl)
      rw [ha] at this
      rcases hf with rfl | rfl | rfl | rfl <;> cases this

theorem faultRecordWf_cleared (f : FaultId) (r : FaultRecord) :
    FaultRecordWf f { r with state := .clear, count := 0 } :=
  ⟨nofun, fun _ => ⟨nofun, rfl⟩, fun _ => rfl⟩

theorem inForceState_inForce (f : FaultId) : (inForceState f).inForce = true := by
  cases f <;> rfl

theorem faultRecordWf_entered {f : FaultId} {r : FaultRecord} (h : FaultRecordWf f r) :
    FaultRecordWf f { r with state := inForceState f } := by
  have hne : ∀ x, FaultState.inForce x = false → inForceState f ≠ x := by
    rintro x hx rfl
    simp [inForceState_inForce] at hx
  exact ⟨fun _ => rfl, fun hl => ⟨hne _ rfl, (h.2.1 hl).2⟩, fun hc => absurd hc (hne _ rfl)⟩

/-- An observation keeps its fault to its class (R136 to R138). -/
theorem faultRecordWf_observed {f : FaultId} {r : FaultRecord} (h : FaultRecordWf f r)
    (hf : ¬ IsLink f) (n : Nat) (present : Bool) :
    FaultRecordWf f (observedRecord (inForceState f) n present r) := by
  have hentered : ∀ m k, FaultRecordWf f ⟨if m ≤ k then inForceState f else .pending, k, true⟩ := by
    intro m k
    split
    · exact ⟨fun _ => rfl, fun hl => absurd hl hf, fun hc =>
        absurd (inForceState_inForce f) (by simp only [] at hc; rw [hc]; nofun)⟩
    · exact ⟨nofun, fun hl => absurd hl hf, nofun⟩
  have hcleared : FaultRecordWf f ⟨.clear, 0, false⟩ := faultRecordWf_cleared f ⟨.clear, 0, false⟩
  unfold observedRecord
  cases hs : r.state <;> cases present
  case clear.false => exact ⟨nofun, fun hl => absurd hl hf, fun _ => h.2.2 hs⟩
  case clear.true => exact hentered _ _
  case pending.false => exact hcleared
  case pending.true => exact hentered _ _
  case active.false => exact hcleared
  case active.true =>
    exact ⟨fun _ => hs.symm.trans (h.1 (by rw [hs]; rfl)), fun hl => absurd hl hf, nofun⟩
  all_goals exact ⟨fun _ => hs.symm.trans (h.1 (by rw [hs]; rfl)), fun hl => absurd hl hf, nofun⟩

/-! The link faults against their ports (R92, R140, R141). -/

/-- A STALE port's link fault is in force, and an ACTIVE link fault's port is STALE. -/
def LinkAgrees (r : FaultRecord) (d : Deadline) : Prop :=
  (d.freshness = .stale → r.state.inForce = true) ∧ (r.state = .active → d.freshness = .stale)

/-- The fault records and the ports' freshness are in order. -/
def FaultsIn (fs : PerFault FaultRecord) (v : Supervisor) : Prop :=
  (∀ f, FaultRecordWf f (fs.get f)) ∧ ∀ p, LinkAgrees (fs.get (linkFault p)) (v.deadlines.get p)

theorem faultMonitorWf_iff (s : State) : FaultMonitorWf s ↔ FaultsIn s.faults s.supervisor := by
  unfold FaultMonitorWf FaultsIn LinkAgrees
  rw [faultsWf_iff]
  simp only [FaultState.inForce_iff, forall_and]

theorem faultsIn_refresh (p : Port) {s : State} (h : FaultsIn s.faults s.supervisor) :
    FaultsIn (refreshPort p s).faults (refreshPort p s).supervisor := by
  refine ⟨fun f => ?_, fun q => ?_⟩
  · rw [refreshPort_get]
    split
    exacts [faultRecordWf_cleared f _, h.1 f]
  · rw [refreshPort_get, refreshPort_supervisor]
    by_cases ha : s.supervisor.armed = true
    · simp only [ha, if_true, true_and, PerPort.get_set]
      by_cases hq : q = p
      · subst hq
        rw [if_pos rfl]
        split
        · exact ⟨nofun, nofun⟩
        · next hkeep =>
          exact ⟨nofun, fun hact => absurd ⟨(h.2 q).2 hact, rfl, hact⟩ hkeep⟩
      · rw [if_neg hq, if_neg fun hh => hq (linkFault_inj hh.2.1)]
        exact h.2 q
    · rw [if_neg ha, if_neg fun hh => ha hh.1]
      exact h.2 q

theorem faultsIn_pass (p : Port) (ahead : Bool) {s : State} (h : FaultsIn s.faults s.supervisor) :
    FaultsIn (passDeadline p ahead s).faults (passDeadline p ahead s).supervisor := by
  refine ⟨fun f => ?_, fun q => ?_⟩
  · rw [passDeadline_get]
    split
    exacts [faultRecordWf_entered (h.1 f), h.1 f]
  · rw [passDeadline_get, passDeadline_supervisor]
    by_cases hq : q = p
    · subst hq
      simp only [PerPort.get_set, if_true]
      split
      · exact ⟨fun _ => inForceState_inForce _, fun _ => rfl⟩
      · next hin => exact ⟨fun _ => by simpa using hin, fun _ => rfl⟩
    · rw [if_neg fun hh => hq (linkFault_inj hh.1)]
      simp only [PerPort.get_set, if_neg hq]
      exact h.2 q

theorem conditionPresent_linkFault (s : State) (p : Port) : conditionPresent s (linkFault p) =
    ((s.supervisor.deadlines.get p).freshness == .stale) := by
  cases p <;> rfl

theorem faultsIn_release (f : FaultId) {s : State} (h : FaultsIn s.faults s.supervisor) :
    FaultsIn (releaseFault f s).faults (releaseFault f s).supervisor := by
  refine ⟨fun g => ?_, fun q => ?_⟩
  · rw [releaseFault_get]
    split
    exacts [faultRecordWf_cleared g _, h.1 g]
  · rw [releaseFault_get, releaseFault_supervisor]
    split
    · next hc =>
      refine ⟨fun hst => ?_, nofun⟩
      rw [conditionPresent_linkFault, hst] at hc
      exact absurd hc.2.2 nofun
    · exact h.2 q

theorem faultsIn_enterConfig {s : State} (h : FaultsIn s.faults s.supervisor) :
    FaultsIn (enterConfig s).faults (enterConfig s).supervisor := by
  refine ⟨fun g => ?_, fun q => ?_⟩
  · rw [enterConfig_get]
    split
    exacts [faultRecordWf_cleared g _, h.1 g]
  · rw [enterConfig_get, enterConfig_supervisor, disarmed_get]
    refine ⟨nofun, fun hact => ?_⟩
    split at hact
    · cases hact
    · next hne =>
      have hclass := (h.1 (linkFault q)).1 (by rw [hact]; rfl)
      rw [hact] at hclass
      cases q with
      | pv => exact absurd (.inl rfl) hne
      | ps => exact absurd (.inr rfl) hne
      | pf => simp [inForceState, linkFault] at hclass
      | pr => simp [inForceState, linkFault] at hclass

theorem faultsIn_complete (x : Inputs) {s : State} (h : FaultsIn s.faults s.supervisor) :
    FaultsIn (complete x s).faults (complete x s).supervisor := by
  refine ⟨fun g => ?_, fun q => ?_⟩
  · obtain ⟨-, e⟩ | ⟨hno, b, e⟩ := complete_get x g s
    · rw [e]; exact h.1 g
    · rw [e]
      exact faultRecordWf_observed (h.1 g) (fun ⟨p, hp⟩ => hno p hp) _ b
  · obtain ⟨-, e⟩ | ⟨hno, -⟩ := complete_get x (linkFault q) s
    · rw [e, complete_supervisor]; exact h.2 q
    · exact absurd rfl (hno q)

/-- An operation that keeps every port's freshness and the faults keeps the rules. -/
theorem FaultsIn.freshness {fs : PerFault FaultRecord} {v v' : Supervisor} (h : FaultsIn fs v)
    (hv : ∀ p, (v'.deadlines.get p).freshness = (v.deadlines.get p).freshness) : FaultsIn fs v' :=
  ⟨h.1, fun p => by unfold LinkAgrees; rw [hv p]; exact h.2 p⟩

theorem faultsIn_reset (v : Supervisor) (hv : ∀ p, (v.deadlines.get p).freshness = .fresh) :
    FaultsIn State.reset.faults v := by
  have hreset : ∀ f, State.reset.faults.get f = FaultRecord.reset := by intro f; cases f <;> rfl
  refine ⟨fun f => ?_, fun p => ?_⟩
  · rw [hreset]
    exact faultRecordWf_cleared f FaultRecord.reset
  · rw [hreset]
    exact ⟨fun hs => absurd ((hv p).symm.trans hs) nofun, nofun⟩

theorem faultsIn_kept : Kept fun s => FaultsIn s.faults s.supervisor :=
  .of
    (.of (refresh := fun p _ h => faultsIn_refresh p h)
      (run := fun s _ _ _ h => by
        rw [enterRun_faults]
        exact h.freshness fun p => by rw [enterRun_deadline, armedDeadline_freshness])
      (config := fun _ _ h => faultsIn_enterConfig h)
      (release := fun f _ h => faultsIn_release f h)
      (pass := fun p ahead _ _ _ h => faultsIn_pass p ahead h))
    (fun _ _ _ => faultsIn_reset _ fun p => by cases p <;> rfl)
    (complete := fun x _ _ h => faultsIn_complete x h)
    (count := fun s h => by
      rw [countDeadlines_faults, countDeadlines_supervisor]
      split
      · exact h.freshness fun p => by rw [PerPort.get_map, countedDeadline_freshness]
      · exact h)

/-- Settles O14: each transition keeps its fault to its class, and the link faults move with their
ports. -/
theorem faultRecordsKeepTheirRules : Obligations.FaultRecordsKeepTheirRules := by
  intro s t hs hstep
  rw [faultMonitorWf_iff] at hs ⊢
  exact faultsIn_kept.ofStep hs hstep

end Sys2Proof.Machine
end

section
/-! PROOFS, spec 00 and spec 10: how a command is taken, and RESET. First the one effect of each
command, then a settled instant, then the block while RESET is asserted; the obligations are
assembled from these rules. -/
namespace Sys2Proof.Machine

/-! Every command is one effect between what comes before it and what comes after (log entries 22 to
24). -/

/-- An effect that is taken only while RESET is released (R159). -/
def released (f : State → State) (x : State) : State := if x.lines.reset then x else f x

/-- A command's own effect, on the state that it finds. -/
def effect (c : Instr) (o : Order) : State → State :=
  match c with
  | .periodExpiry => released fun x => takePeriodExpiry o (completeInFlight x)
  | .completion => released completeInFlight
  | .lifetimeExpiry => released fun x => x.withTable (x.table.filterMap agedEntry)
  | .deadlineExpiry p => released (expireDeadline p)
  | .receiveIdle p => released fun x =>
      if (x.port p).receiver = .hunt then setReceiver p .ready x else x
  | .frameGap p => released fun x => match (x.port p).receiver with
      | .receiving _ => breakFrame p x
      | .hunt => x
      | .ready => x
  | .framingError p => released (breakFrame p)
  | .byteInHunt p => released fun x =>
      if (x.port p).receiver = .hunt then markLinkError p x else x
  | .crcError p => released (breakFrame p)
  | .transmitCompletion p => released fun x =>
      if (x.port p).sending.isSome then startTransmitter p (endTransmission p x) else x
  | .byteArrival p b => released (receiveByte p b o)
  | .shutoffAssert => fun x =>
      if !x.lines.reset && x.mode.state == .run then enterHalt (setShutoff true x)
      else setShutoff true x
  | .shutoffRelease => setShutoff false
  | .resetAssert => fun x => resetAsserted x.lines.shutoff x.instant.timing x.pending
  | .resetRelease => fun x =>
      if x.lines.reset then
        (x.withLines { x.lines with reset := false }).withEngine
          { x.engine with interval := some (paramDefaults.read Param.periodUs) }
      else x
  | .unknownKind p tag kind => fun x =>
      if (Instr.unknownKind p tag kind).wellFormed then
        frameArrives (.unknownKind p tag kind) p (takeUnknown p tag kind) x
      else x
  | .demand p tag t b => frameArrives (.demand p tag t b) p (takeDemand p tag t b o)
  | .envelope p tag d r v b => frameArrives (.envelope p tag d r v b) p (takeEnvelope p tag d r v b)
  | .reference p tag v b => frameArrives (.reference p tag v b) p (takeReference p tag v b o)
  | .setParam p tag i v => frameArrives (.setParam p tag i v) p (takeSetParam p tag i v)
  | .readParam p tag i => frameArrives (.readParam p tag i) p (takeReadParam p tag i)
  | .writeCells p tag m st sp n v0 v1 v2 v3 => frameArrives
      (.writeCells p tag m st sp n v0 v1 v2 v3) p (takeWriteCells p tag m st sp n v0 v1 v2 v3)
  | .selectMaps p tag d r => frameArrives (.selectMaps p tag d r) p (takeSelectMaps p tag d r)
  | .start p tag => frameArrives (.start p tag) p (takeStart p tag)
  | .stop p tag => frameArrives (.stop p tag) p (takeStop p tag)
  | .configure p tag => frameArrives (.configure p tag) p (takeConfigure p tag)
  | .clearFault p tag i => frameArrives (.clearFault p tag i) p (takeClearFault p tag i)
  | .queueSegment p tag i sh e t d =>
      frameArrives (.queueSegment p tag i sh e t d) p (takeQueueSegment p tag i sh e t d)
  | .abortProgram p tag => frameArrives (.abortProgram p tag) p (takeAbortProgram p tag)
  | .intervene p tag i k a v l =>
      frameArrives (.intervene p tag i k a v l) p (takeIntervene p tag i k a v l)
  | .release p tag i => frameArrives (.release p tag i) p (takeRelease p tag i)
  | .poll p tag => frameArrives (.poll p tag) p (takePoll p tag)

theorem exec_eq (c : Instr) (s : State) :
    exec c s = .next (closed s (effect c (timingOf s).order (opened s))) := by
  cases c <;> rfl

/-- What a command leaves, given its effect on the state that it finds. -/
theorem exec_eq_closed {c : Instr} {s u : State}
    (h : effect c (timingOf s).order (opened s) = u) : exec c s = .next (closed s u) := by
  rw [exec_eq, h]

@[simp] theorem released_of_released {x : State} (h : x.lines.reset = false) (f : State → State) :
    released f x = f x := by simp [released, h]

theorem joinsInstant_congr {s t : State} (h : t.instant.timing = s.instant.timing) :
    joinsInstant t = joinsInstant s := by simp [joinsInstant, timingOf, h]

theorem endInstant_timing (r : Option Remainder) (s : State) :
    (endInstant r s).instant.timing = s.instant.timing := by
  simp [endInstant, finish_timing]

theorem closed_timing (s u : State) : (closed s u).instant.timing = u.instant.timing := by
  unfold closed endUnlessJoined
  split
  · exact finish_timing _ _
  · rw [endInstant_timing]
    exact finish_timing _ _

/-- The commands but the front one wait on, with their timings. -/
def Waiting (cs : List Instr) (ts : List Timing) (pending : List Instr) (i : Instant) : Prop :=
  pending = cs ∧ i.timing = ts

@[simp] theorem countDeadlines_instant (s : State) :
    (countDeadlines s).instant = { s.instant with counted := true } := by
  unfold countDeadlines
  dsimp only
  split <;> rfl

theorem waiting_keptInTime (cs : List Instr) (ts : List Timing) :
    KeptInTime fun s => Waiting cs ts s.pending s.instant where
  toKeptByEvents := .of (leave := fun _ _ _ _ h => h) (forget := fun _ h => h)
    (uncount := fun _ h => h)
  complete _ _ _ h := by simpa using h
  interval _ h := by simpa using h
  compute _ h := by simpa using h
  count s h := by simpa [Waiting] using h
  leaveTimed _ _ h := h

/-- Every command takes its own timing and leaves the other waiting commands with theirs. -/
theorem closed_waiting (c : Instr) (s : State) :
    Waiting s.pending s.instant.timing.tail
      (closed s (effect c (timingOf s).order (opened s))).pending
      (closed s (effect c (timingOf s).order (opened s))).instant := by
  by_cases h1 : c = .resetAssert
  · subst h1
    exact ⟨by simp [effect, resetAsserted],
      by simp [closed_timing, effect, resetAsserted, opened_timing]⟩
  by_cases h2 : c = .resetRelease
  · subst h2
    refine ⟨?_, ?_⟩
    · rw [closed_pending]
      simp only [effect]
      split <;> simp
    · rw [closed_timing]
      simp only [effect]
      split <;> simp [opened_timing]
  · exact (waiting_keptInTime s.pending s.instant.timing.tail).ofExec h1 h2 ⟨rfl, rfl⟩ (exec_eq c s)

/-! A settled instant. -/

/-- Where nothing is left of an instant, its end leaves the block as it stands. -/
theorem endUnlessJoined_settled {u : State} (h : Settled u) : endUnlessJoined u = u := by
  obtain ⟨hr, hc, hd, hq⟩ := h
  have hdrop : dropRemainder u = u := by
    unfold dropRemainder
    rw [← hr]
    rfl
  unfold endUnlessJoined
  split
  · rfl
  · unfold endInstant
    rw [hdrop, hr, finish_none, settleDeadlines_none hd, startTransmitters_quiet hq, ← hc]
    rfl

theorem closed_of_settled {s u : State} (hs : s.instant.remainder = none) (hu : Settled u) :
    closed s u = u := by
  have howed : owed s = none := by
    unfold owed
    split
    exacts [hs, rfl]
  rw [closed, howed, finish_none, endUnlessJoined_settled hu]

theorem opened_remainder (s : State) : (opened s).instant.remainder = none := by
  unfold opened endInstant dropTiming
  split <;> simp [finish_remainder]

/-- Settles O1. -/
theorem stepTakesTheFrontCommand : Obligations.StepTakesTheFrontCommand :=
  ⟨fun c rest s h => by rw [step, h], fun s h => by rw [step, h]⟩

/-- Settles O2: each command's effect stands between `opened` and `closed`, which say what surrounds
it. -/
theorem everyCommandCompletes : Obligations.EveryCommandCompletes := by
  refine ⟨fun c s => ⟨_, exec_eq c s, closed_waiting c s⟩, fun s h => opened_settled h, fun s => ?_,
    fun s u => ?_, fun s u hs hu hr hc hd => closed_alone hs hu hr hc hd⟩
  · refine ⟨fun hj => ?_, fun hj => ⟨_, rfl, ?_⟩⟩
    · rw [opened, if_pos hj]
      rfl
    · rw [opened, if_neg (by simp [hj])]
      rfl
  · have hjoin : joinsInstant (finish (owed s) u) = joinsInstant u :=
      joinsInstant_congr (finish_timing _ _)
    refine ⟨_, rfl, fun hj => ?_, fun hj => ⟨closed_settled hj, _, rfl, ?_⟩⟩
    · have hend : endUnlessJoined (finish (owed s) u) = finish (owed s) u := by
        rw [endUnlessJoined, hjoin, if_pos hj]
      exact hend
    · have hend : endUnlessJoined (finish (owed s) u) =
          endInstant u.instant.remainder (dropRemainder (finish (owed s) u)) := by
        rw [endUnlessJoined, hjoin, if_neg (by simp [hj]), finish_remainder]
      exact hend

/-! RESET. -/

/-- Under RESET no slot is occupied and no transmission is on a line. -/
theorem resetAsserted_port (sh : Bool) (ts : List Timing) (cs : List Instr) (p : Port) :
    (resetAsserted sh ts cs).port p = LinkPort.reset := by
  cases p <;> rfl

theorem quiet_of_reset_blocks {s : State} (hp : ∀ p, s.port p = LinkPort.reset)
    (hc : s.commands = ⟨none, none⟩) : Quiet s := by
  intro q _
  rw [hp q]
  refine ⟨?_, rfl, rfl⟩
  unfold waitingCommand
  rw [hc]
  cases q <;> rfl

theorem settled_of_disarmed {s : State} (hr : s.instant.remainder = none)
    (hc : s.instant.counted = false) (ha : s.supervisor.armed = false) (hq : Quiet s) : Settled s :=
  ⟨hr, hc, fun p => by simp [deadlineDue, ha], hq⟩

theorem settled_resetAsserted (sh : Bool) (ts : List Timing) (cs : List Instr) :
    Settled (resetAsserted sh ts cs) :=
  settled_of_disarmed rfl rfl rfl (quiet_of_reset_blocks (resetAsserted_port sh ts cs) rfl)

theorem opened_resetAsserted (sh : Bool) (ts : List Timing) (cs : List Instr) :
    opened (resetAsserted sh ts cs) = resetAsserted sh ts.tail cs :=
  opened_settled (settled_resetAsserted sh ts cs)

/-- Under RESET the owed change is dropped, and nothing is left at the instant's end. -/
theorem closed_resetAsserted (s : State) (sh : Bool) (ts : List Timing) (cs : List Instr) :
    closed s (resetAsserted sh ts cs) = resetAsserted sh ts cs := by
  have hfinish : finish (owed s) (resetAsserted sh ts cs) = resetAsserted sh ts cs := rfl
  rw [closed, hfinish, endUnlessJoined_settled (settled_resetAsserted sh ts cs)]

theorem exec_resetAssert (s : State) : exec .resetAssert s =
    .next (resetAsserted s.lines.shutoff s.instant.timing.tail s.pending) := by
  have he : effect .resetAssert (timingOf s).order (opened s) =
      resetAsserted s.lines.shutoff s.instant.timing.tail s.pending := by
    simp [effect, opened_timing]
  rw [exec_eq, he, closed_resetAsserted]

/-- The release of RESET after its assertion: the first interval has begun (R1). -/
theorem exec_resetRelease_resetAsserted (sh : Bool) (ts : List Timing) (cs : List Instr) :
    exec .resetRelease (resetAsserted sh ts cs) =
      .next { State.reset with
        lines := ⟨false, sh, false⟩
        instant := ⟨ts.tail, none, false⟩
        pending := cs } := by
  rw [exec_eq, opened_resetAsserted]
  refine congrArg _ (closed_of_settled rfl (settled_of_disarmed rfl rfl rfl ?_))
  exact quiet_of_reset_blocks (fun p => by cases p <;> rfl) rfl

/-- Settles O3: the reset state is settled, so that nothing follows it at its instant. -/
theorem resetReturnsTheResetState : Obligations.ResetReturnsTheResetState := by
  refine ⟨fun s => ⟨exec_resetAssert s, fun t ht => ?_⟩, fun s => ⟨fun hr => ?_, fun hr => ?_⟩⟩
  · rw [exec_resetAssert] at ht
    obtain rfl := Host.Outcome.next.inj ht
    exact exec_resetRelease_resetAsserted _ _ _
  · refine exec_eq_closed ?_
    simp only [effect, opened_lines_reset, hr, if_true]
    rfl
  · refine exec_eq_closed ?_
    simp [effect, hr]

/-- Under RESET every command but those of the two input lines leaves the block as it finds it. -/
theorem effect_of_reset {c : Instr} {x : State} (hx : x.lines.reset = true)
    (h1 : c ≠ .shutoffAssert) (h2 : c ≠ .shutoffRelease) (h3 : c ≠ .resetRelease)
    (h4 : c ≠ .resetAssert) (o : Order) : effect c o x = x := by
  cases c
  case shutoffAssert => exact absurd rfl h1
  case shutoffRelease => exact absurd rfl h2
  case resetRelease => exact absurd rfl h3
  case resetAssert => exact absurd rfl h4
  all_goals simp [effect, released, frameArrives, hx]

theorem exec_of_reset {c : Instr} (h1 : c ≠ .shutoffAssert) (h2 : c ≠ .shutoffRelease)
    (h3 : c ≠ .resetRelease) (sh : Bool) (ts : List Timing) (cs : List Instr) :
    exec c (resetAsserted sh ts cs) = .next (resetAsserted sh ts.tail cs) := by
  by_cases h4 : c = .resetAssert
  · subst h4
    exact exec_resetAssert _
  · rw [exec_eq, opened_resetAsserted, effect_of_reset rfl h1 h2 h3 h4, closed_resetAsserted]

theorem exec_shutoffAssert_of_reset (sh : Bool) (ts : List Timing) (cs : List Instr) :
    exec .shutoffAssert (resetAsserted sh ts cs) = .next (resetAsserted true ts.tail cs) := by
  rw [exec_eq, opened_resetAsserted]
  exact congrArg _ (closed_resetAsserted _ true ts.tail cs)

theorem exec_shutoffRelease_of_reset (sh : Bool) (ts : List Timing) (cs : List Instr) :
    exec .shutoffRelease (resetAsserted sh ts cs) = .next (resetAsserted false ts.tail cs) := by
  rw [exec_eq, opened_resetAsserted]
  exact congrArg _ (closed_resetAsserted _ false ts.tail cs)

/-- Settles O4: such a state is the reset state with its own SHUTOFF level and waiting commands. -/
theorem nothingMovesWhileResetIsAsserted : Obligations.NothingMovesWhileResetIsAsserted := by
  intro s hr hs
  have e := hs hr
  generalize s.lines.shutoff = sh at e
  generalize s.instant.timing = ts at e
  generalize s.pending = cs at e
  subst e
  exact ⟨fun c h1 h2 h3 => exec_of_reset h1 h2 h3 sh ts cs, exec_shutoffAssert_of_reset sh ts cs,
    exec_shutoffRelease_of_reset sh ts cs⟩

/-- Settles O5: the reset state as it is written, and the tables of parameters and maps read out. -/
theorem resetStateHasTheManualsValues : Obligations.ResetStateHasTheManualsValues := by
  refine ⟨rfl, rfl, by decide, fun m i => ?_, rfl, rfl, rfl, fun a => ?_, rfl, rfl, fun p => ?_,
    rfl,
    rfl, fun f => ?_, rfl, rfl, rfl, rfl, rfl, rfl, rfl, rfl, rfl, rfl, fun p => ?_⟩
  · simp [State.reset, MapStore.reset, MapStore.map, Config.resetShare]
  · cases a <;> rfl
  · cases p <;> exact ⟨rfl, rfl⟩
  · cases f <;> rfl
  · cases p <;> rfl

end Sys2Proof.Machine
end

section
/-! SUPPORT. Two properties kept together, where the second needs the first at the timed
operations. -/
namespace Sys2Proof.Machine

variable {P Q : State → Prop}

theorem KeptByEvents.and (K : KeptByEvents P) (L : KeptByEvents Q) :
    KeptByEvents fun s => P s ∧ Q s where
  hunt p s h := ⟨K.hunt p s h.1, L.hunt p s h.2⟩
  ready p s h := ⟨K.ready p s h.1, L.ready p s h.2⟩
  firstByte p b s h := ⟨K.firstByte p b s h.1, L.firstByte p b s h.2⟩
  nextByte p held b s hr hl h := ⟨K.nextByte p held b s hr hl h.1, L.nextByte p held b s hr hl h.2⟩
  refresh p s h := ⟨K.refresh p s h.1, L.refresh p s h.2⟩
  choose p s h := ⟨K.choose p s h.1, L.choose p s h.2⟩
  leave r s h1 h2 h := ⟨K.leave r s h1 h2 h.1, L.leave r s h1 h2 h.2⟩
  forget s h := ⟨K.forget s h.1, L.forget s h.2⟩
  uncount s h := ⟨K.uncount s h.1, L.uncount s h.2⟩
  place p r s he h := ⟨K.place p r s he h.1, L.place p r s he h.2⟩
  linkError p s h := ⟨K.linkError p s h.1, L.linkError p s h.2⟩
  overrun p s h := ⟨K.overrun p s h.1, L.overrun p s h.2⟩
  demand p t b s h := ⟨K.demand p t b s h.1, L.demand p t b s h.2⟩
  envelope p d r v b s h := ⟨K.envelope p d r v b s h.1, L.envelope p d r v b s h.2⟩
  reference p v b s h := ⟨K.reference p v b s h.1, L.reference p v b s h.2⟩
  poll p s h := ⟨K.poll p s h.1, L.poll p s h.2⟩
  param i v s h1 h2 h3 h := ⟨K.param i v s h1 h2 h3 h.1, L.param i v s h1 h2 h3 h.2⟩
  cells m st sp n vs w s h1 h2 h :=
    ⟨K.cells m st sp n vs w s h1 h2 h.1, L.cells m st sp n vs w s h1 h2 h.2⟩
  select d r s h := ⟨K.select d r s h.1, L.select d r s h.2⟩
  run s h1 h2 h3 h := ⟨K.run s h1 h2 h3 h.1, L.run s h1 h2 h3 h.2⟩
  halt s h1 h := ⟨K.halt s h1 h.1, L.halt s h1 h.2⟩
  config s h1 h := ⟨K.config s h1 h.1, L.config s h1 h.2⟩
  release f s h := ⟨K.release f s h.1, L.release f s h.2⟩
  segment i sh e t d g s h1 h2 h3 h4 h :=
    ⟨K.segment i sh e t d g s h1 h2 h3 h4 h.1, L.segment i sh e t d g s h1 h2 h3 h4 h.2⟩
  tooLong s h := ⟨K.tooLong s h.1, L.tooLong s h.2⟩
  abort s h := ⟨K.abort s h.1, L.abort s h.2⟩
  put i k a v l e s h1 h2 h := ⟨K.put i k a v l e s h1 h2 h.1, L.put i k a v l e s h1 h2 h.2⟩
  drop n s h := ⟨K.drop n s h.1, L.drop n s h.2⟩
  clear s h := ⟨K.clear s h.1, L.clear s h.2⟩
  age s h := ⟨K.age s h.1, L.age s h.2⟩
  ended p s h := ⟨K.ended p s h.1, L.ended p s h.2⟩
  shutoff b s h := ⟨K.shutoff b s h.1, L.shutoff b s h.2⟩
  shutoffRun s h1 h := ⟨K.shutoffRun s h1 h.1, L.shutoffRun s h1 h.2⟩
  pass p s ha hf :=
    ⟨fun h => ⟨(K.pass p s ha hf).1 ⟨h.1, h.2.1⟩, (L.pass p s ha hf).1 ⟨h.1, h.2.2⟩⟩,
      fun h => ⟨(K.pass p s ha hf).2 ⟨h.1, h.2.1, h.2.2.1⟩,
        (L.pass p s ha hf).2 ⟨h.1, h.2.1, h.2.2.2⟩⟩⟩

/-- The second property may use the first where a computation starts or completes. -/
theorem Kept.andAlso (K : Kept P) (L : KeptByEvents Q)
    (reset : ∀ shutoff timing pending, Q (resetAsserted shutoff timing pending))
    (complete : ∀ x s, s.engine.inFlight = some x → P s → Q s → Q (complete x s))
    (compute : ∀ s, P s → Q s → Q (startComputation s))
    (interval : ∀ s, Q s → Q (beginInterval s) := by intro _ h; simpa using h)
    (count : ∀ s, Q s → Q (countDeadlines s) := by intro _ h; simpa using h)
    (leaveTimed : ∀ r s, Q s → Q (Machine.leave r s) := by intro _ _ h; simpa using h)
    (started : ∀ s, s.lines.reset = true → Q s →
      Q ((s.withLines { s.lines with reset := false }).withEngine
        { s.engine with interval := some (paramDefaults.read Param.periodUs) }) := by
      intro _ _ h; simpa using h)
    (untimed : ∀ s, Q s → Q (dropTiming s) := by intro _ h; simpa using h)
    (queued : ∀ rest s, Q s → Q (s.withPending rest) := by intro _ _ h; simpa using h) :
    Kept fun s => P s ∧ Q s where
  toKeptByEvents := K.toKeptByEvents.and L
  complete x s hx h := ⟨K.complete x s hx h.1, complete x s hx h.1 h.2⟩
  interval s h := ⟨K.interval s h.1, interval s h.2⟩
  compute s h := ⟨K.compute s h.1, compute s h.1 h.2⟩
  count s h := ⟨K.count s h.1, count s h.2⟩
  leaveTimed r s h := ⟨K.leaveTimed r s h.1, leaveTimed r s h.2⟩
  reset s h := ⟨K.reset s h.1, reset _ _ _⟩
  started s hr h := ⟨K.started s hr h.1, started s hr h.2⟩
  untimed s h := ⟨K.untimed s h.1, untimed s h.2⟩
  queued rest s h := ⟨K.queued rest s h.1, queued rest s h.2⟩

theorem Kept.and (K : Kept P) (L : Kept Q) : Kept fun s => P s ∧ Q s where
  toKeptByEvents := K.toKeptByEvents.and L.toKeptByEvents
  complete x s hx h := ⟨K.complete x s hx h.1, L.complete x s hx h.2⟩
  interval s h := ⟨K.interval s h.1, L.interval s h.2⟩
  compute s h := ⟨K.compute s h.1, L.compute s h.2⟩
  count s h := ⟨K.count s h.1, L.count s h.2⟩
  leaveTimed r s h := ⟨K.leaveTimed r s h.1, L.leaveTimed r s h.2⟩
  reset s h := ⟨K.reset s h.1, L.reset s h.2⟩
  started s hr h := ⟨K.started s hr h.1, L.started s hr h.2⟩
  untimed s h := ⟨K.untimed s h.1, L.untimed s h.2⟩
  queued rest s h := ⟨K.queued rest s h.1, L.queued rest s h.2⟩

end Sys2Proof.Machine
end

section
/-! PROOFS: every stored value in its range. First the parameters with the counts, then the input
records, then what a computation hands to the Split Engine; the obligation is assembled with the
chain of operations. -/
namespace Sys2Proof.Machine

/-! Parameters, remaining counts and qualification counts (R134, R161; spec 06, section 6.2). -/

theorem paramAdmits_le {i v : Nat} (h : paramAdmits i v = true) :
    (paramRange i).1 ≤ v ∧ v ≤ (paramRange i).2 := by
  simp only [paramAdmits, Bool.and_eq_true, decide_eq_true_eq] at h
  exact h.1

/-- Every parameter lies in its range (R161). -/
def ParamsWf (ps : Params) : Prop := ∀ i : Fin 40, paramAdmits i.val (ps.read i) = true

theorem paramsWf_write {ps : Params} (h : ParamsWf ps) {i : Fin 40} {v : Nat}
    (hv : paramAdmits i.val v = true) : ParamsWf (ps.write i v) := by
  intro j
  rw [Params.read_write]
  split
  · next e => rw [e]; exact hv
  · exact h j

theorem paramsWf_defaults : ParamsWf paramDefaults := by
  unfold ParamsWf
  decide

theorem window_mem {s : State} (h : ParamsWf s.params) (p : Port) :
    2 ≤ window s p ∧ window s p ≤ 200 := by
  have := paramAdmits_le (h (windowParam p))
  cases p <;> exact this

theorem qualification_le {s : State} (h : ParamsWf s.params) (f : FaultId) :
    qualification s f ≤ 5000 := by
  have hstall := (paramAdmits_le (h Param.stallWindow)).2
  have hslip := (paramAdmits_le (h Param.slipQual)).2
  cases f
  case stallF => exact hstall
  case stallR => exact hstall
  case slipF => exact hslip
  case slipR => exact hslip
  all_goals exact Nat.zero_le _

/-- A fault's count lies in 0..5000, below 5000 while PENDING (R134). -/
def FaultCountWf (r : FaultRecord) : Prop :=
  r.count ≤ 5000 ∧ (r.state = .pending → r.count < 5000)

theorem faultCountWf_cleared (r : FaultRecord) :
    FaultCountWf { r with state := .clear, count := 0 } := ⟨Nat.zero_le _, nofun⟩

theorem inForceState_ne_pending (f : FaultId) : inForceState f ≠ .pending := by
  cases f <;> nofun

theorem faultCountWf_entered {r : FaultRecord} (h : FaultCountWf r) (f : FaultId) :
    FaultCountWf { r with state := inForceState f } :=
  ⟨h.1, fun hp => absurd hp (inForceState_ne_pending f)⟩

/-- A count that reaches its qualification enters, so that a PENDING one stays below it (R137). -/
theorem faultCountWf_observed {r : FaultRecord} (h : FaultCountWf r) (f : FaultId) {n : Nat}
    (hn : n ≤ 5000) (present : Bool) :
    FaultCountWf (observedRecord (inForceState f) n present r) := by
  have hentered : ∀ k, k ≤ 5000 →
      FaultCountWf ⟨if n ≤ k then inForceState f else .pending, k, true⟩ := by
    intro k hk
    split
    · exact ⟨hk, fun hp => absurd hp (inForceState_ne_pending f)⟩
    · next hlt => exact ⟨hk, fun _ => (not_le.1 hlt).trans_le hn⟩
  have hcleared : FaultCountWf ⟨.clear, 0, false⟩ := faultCountWf_cleared ⟨.clear, 0, false⟩
  unfold observedRecord
  cases hs : r.state <;> cases present
  case clear.false => exact ⟨h.1, nofun⟩
  case clear.true => exact hentered 1 (by omega)
  case pending.false => exact hcleared
  case pending.true => exact hentered _ (h.2 hs)
  case active.false => exact hcleared
  all_goals exact ⟨h.1, nofun⟩

/-- Parameters, remaining counts and qualification counts are in their ranges. -/
def CountsIn (ps : Params) (v : Supervisor) (fs : PerFault FaultRecord) : Prop :=
  ParamsWf ps ∧ (∀ p, (v.deadlines.get p).remaining ≤ 200) ∧ ∀ f, FaultCountWf (fs.get f)

theorem countsIn_refresh (p : Port) {s : State} (h : CountsIn s.params s.supervisor s.faults) :
    CountsIn (refreshPort p s).params (refreshPort p s).supervisor (refreshPort p s).faults := by
  obtain ⟨hps, hremain, hcount⟩ := h
  rw [refreshPort_params, refreshPort_supervisor]
  refine ⟨hps, fun q => ?_, fun f => ?_⟩
  · split
    · rw [PerPort.get_set]
      split
      exacts [(window_mem hps p).2, hremain q]
    · exact hremain q
  · rw [refreshPort_get]
    split
    exacts [faultCountWf_cleared _, hcount f]

theorem countsIn_pass (p : Port) (ahead : Bool) {s : State}
    (h : CountsIn s.params s.supervisor s.faults) :
    CountsIn (passDeadline p ahead s).params (passDeadline p ahead s).supervisor
      (passDeadline p ahead s).faults := by
  obtain ⟨hps, hremain, hcount⟩ := h
  rw [passDeadline_params, passDeadline_supervisor]
  refine ⟨hps, fun q => ?_, fun f => ?_⟩
  · rw [PerPort.get_set]
    split
    exacts [Nat.zero_le _, hremain q]
  · rw [passDeadline_get]
    split
    exacts [faultCountWf_entered (hcount f) f, hcount f]

theorem countsIn_enterRun {s : State} (h : CountsIn s.params s.supervisor s.faults) :
    CountsIn (enterRun s).params (enterRun s).supervisor (enterRun s).faults := by
  obtain ⟨hps, hremain, hcount⟩ := h
  rw [enterRun_params, enterRun_faults]
  refine ⟨hps, fun p => ?_, hcount⟩
  rw [enterRun_deadline, armedDeadline]
  split
  exacts [(window_mem hps p).2, hremain p]

theorem countsIn_complete (x : Inputs) {s : State} (h : CountsIn s.params s.supervisor s.faults) :
    CountsIn (complete x s).params (complete x s).supervisor (complete x s).faults := by
  obtain ⟨hps, hremain, hcount⟩ := h
  rw [complete_params, complete_supervisor]
  refine ⟨hps, hremain, fun f => ?_⟩
  obtain ⟨-, e⟩ | ⟨-, b, e⟩ := complete_get x f s
  · rw [e]; exact hcount f
  · rw [e]
    exact faultCountWf_observed (hcount f) f (qualification_le hps f) b

theorem faultCountWf_reset (f : FaultId) : FaultCountWf (State.reset.faults.get f) := by
  cases f <;> exact faultCountWf_cleared FaultRecord.reset

theorem countsIn_kept : Kept fun s => CountsIn s.params s.supervisor s.faults :=
  .of
    (.of (refresh := fun p _ h => countsIn_refresh p h)
      (param := fun i v s _ _ hv h => by
        rw [writeParam_params, writeParam_supervisor, writeParam_faults]
        exact ⟨paramsWf_write h.1 hv, h.2⟩)
      (run := fun _ _ _ _ h => countsIn_enterRun h)
      (config := fun s _ h => by
        rw [enterConfig_params, enterConfig_supervisor]
        refine ⟨h.1, fun p => by rw [disarmed_get]; exact Nat.zero_le _, fun f => ?_⟩
        rw [enterConfig_get]
        split
        exacts [faultCountWf_cleared _, h.2.2 f])
      (release := fun g s h => by
        rw [releaseFault_params, releaseFault_supervisor]
        refine ⟨h.1, h.2.1, fun f => ?_⟩
        rw [releaseFault_get]
        split
        exacts [faultCountWf_cleared _, h.2.2 f])
      (pass := fun p ahead _ _ _ h => countsIn_pass p ahead h))
    (fun _ _ _ => ⟨paramsWf_defaults, fun p => by cases p <;> exact Nat.zero_le _,
      faultCountWf_reset⟩)
    (complete := fun x _ _ h => countsIn_complete x h)
    (count := fun s h => by
      rw [countDeadlines_params, countDeadlines_supervisor, countDeadlines_faults]
      refine ⟨h.1, fun p => ?_, h.2.2⟩
      split
      · rw [PerPort.get_map]
        exact (countedDeadline_remaining_le _).trans (h.2.1 p)
      · exact h.2.1 p)

/-! The maps alone (R42, R46). -/

theorem mapsWf_kept : Kept fun s => MapsWf s.maps :=
  .of (.of (cells := fun _ _ _ _ _ _ _ hw _ h => mapsWf_writeMap hw h) (select := fun _ _ _ h => h))
    (fun _ _ _ => mapsWf_reset)

/-! The input records (R68, R70, R80, R81, R85, R86). -/

theorem clampInt_mem {lo hi : Int} (h : lo ≤ hi) (x : Int) :
    lo ≤ clampInt lo hi x ∧ clampInt lo hi x ≤ hi := by
  unfold clampInt
  split <;> [skip; split] <;> omega

/-- The three input records are in their ranges. -/
def RecordsIn (d : DemandRecord) (r : ReferenceRecord) (x : PerAxle AxleRecord) : Prop :=
  (-12000 ≤ d.torque ∧ d.torque ≤ 16000) ∧ (-1000 ≤ r.speed ∧ r.speed ≤ 2500) ∧
    (r.present = false → r = ⟨false, 0, false⟩) ∧
    ∀ a, (x.get a).driveMax ≤ 8000 ∧ (x.get a).regenMax ≤ 8000 ∧
      -1000 ≤ (x.get a).speed ∧ (x.get a).speed ≤ 2500 ∧
      ((x.get a).state = .absent → x.get a = AxleRecord.reset)

theorem storedSpeed_mem (v : Half) : -1000 ≤ storedSpeed v ∧ storedSpeed v ≤ 2500 :=
  clampInt_mem (by decide) _

@[simp] theorem storeReference_reference (p : Port) (v : Half) (b : Byte) (s : State) :
    (storeReference p v b s).reference = referenceRecord v b := by
  simp [storeReference]

theorem storeEnvelope_axles (p : Port) (d r v : Half) (b : Byte) (s : State) :
    (storeEnvelope p d r v b s).axles = match portAxle p with
      | some a => s.axles.set a (envelopeRecord d r v b)
      | none => s.axles := by
  unfold storeEnvelope
  cases portAxle p <;> simp

theorem recordsIn_reset :
    RecordsIn ⟨0, false⟩ ⟨false, 0, false⟩ ⟨AxleRecord.reset, AxleRecord.reset⟩ := by
  refine ⟨by decide, by decide, fun _ => rfl, fun a => ?_⟩
  cases a <;> exact ⟨by decide, by decide, by decide, by decide, fun _ => rfl⟩

theorem recordsIn_kept : Kept fun s => RecordsIn s.demand s.reference s.axles :=
  .of
    (.of
      (demand := fun p t b s h => by
        rw [storeDemand_demand, storeDemand_reference, storeDemand_axles]
        exact ⟨clampInt_mem (by decide) _, h.2⟩)
      (envelope := fun p d r v b s h => by
        rw [storeEnvelope_demand, storeEnvelope_reference, storeEnvelope_axles]
        obtain ⟨hd, hr, hp, ha⟩ := h
        refine ⟨hd, hr, hp, fun a => ?_⟩
        split
        · rw [PerAxle.get_set]
          split
          · exact ⟨capNat_le _ _, capNat_le _ _, (storedSpeed_mem v).1, (storedSpeed_mem v).2,
              nofun⟩
          · exact ha a
        · exact ha a)
      (reference := fun p v b s h => by
        rw [storeReference_demand, storeReference_reference, storeReference_axles]
        exact ⟨h.1, storedSpeed_mem v, nofun, h.2.2.2⟩))
    (fun _ _ _ => recordsIn_reset)

/-! What a computation hands on. -/

theorem heldDemand_mem {x : Inputs} (h : InputsWf x) :
    -12000 ≤ heldDemand x ∧ heldDemand x ≤ 16000 := by
  obtain ⟨-, hd, -, -, -, -, -, -, -, hv⟩ := h
  unfold heldDemand
  split
  · exact hd
  · rw [decayToward_eq _ _ (Int.natCast_nonneg _)]
    split <;> omega

theorem formDemand_d0_mem {x : Inputs} (h : InputsWf x) :
    -12000 ≤ (formDemand x).d0 ∧ (formDemand x).d0 ≤ 16000 := by
  have hheld := heldDemand_mem h
  obtain ⟨-, hd, -⟩ := h
  rw [formDemand_d0]
  split
  · decide
  · split
    exacts [hheld, hd]

theorem hold_mem {x : Inputs} (h : InputsWf x) : (formDemand x).holdCount ≤ 65535 ∧
    -12000 ≤ (formDemand x).heldValue ∧ (formDemand x).heldValue ≤ 16000 := by
  have hheld := heldDemand_mem h
  obtain ⟨-, hd, -, -, -, -, -, -, hn, hv⟩ := h
  by_cases hl : x.faults.linkV = .active
  · by_cases hk : x.mode ≠ .run ∨ x.demand.propulsion = false
    · rw [formDemand_of_kept hl hk]
      exact ⟨hn, hv⟩
    · obtain ⟨hm, hp⟩ := not_or.1 hk
      rw [formDemand_of_held hl (not_not.1 hm) (by simpa using hp)]
      exact ⟨min_le_right _ _, hheld⟩
  · rw [formDemand_of_link hl]
    exact ⟨Nat.zero_le _, hd⟩

/-- A cap moves the demand toward 0 without crossing it (R22). -/
theorem cappedDemand_mem_uIcc (cap : Option Nat) (d0 : Int) :
    cappedDemand cap d0 ∈ Set.uIcc 0 d0 := by
  unfold cappedDemand
  split
  · exact Set.right_mem_uIcc
  · next c =>
    split
    · next hlt =>
      rw [Set.mem_uIcc]
      unfold mag at hlt
      rcases lt_trichotomy d0 0 with hneg | hzero | hpos
      · rw [Int.sign_eq_neg_one_of_neg hneg]; omega
      · rw [hzero] at hlt; omega
      · rw [Int.sign_eq_one_of_pos hpos]; omega
    · exact Set.right_mem_uIcc

theorem dUsed_mem {x : Inputs} (h : InputsWf x) :
    -12000 ≤ (computeSplit x).dUsed ∧ (computeSplit x).dUsed ≤ 16000 := by
  have hd := formDemand_d0_mem h
  have hmem := cappedDemand_mem_uIcc (totalCap x) (formDemand x).d0
  rw [Set.mem_uIcc] at hmem
  rw [computeSplit_dUsed]
  omega

theorem limit_mem {x : Inputs} (h : InputsWf x) (a : Axle) :
    0 ≤ (computeSplit x).limit.get a ∧ (computeSplit x).limit.get a ≤ 8000 := by
  obtain ⟨-, -, -, haxles, -⟩ := h
  obtain ⟨hdrive, hregen, -⟩ := haxles a
  refine ⟨limit_nonneg x a, ?_⟩
  rw [computeSplit_limit]
  have hbase : axleLimit x a (computeSplit x).dUsed ≤ baseLimit x a (computeSplit x).dUsed :=
    foldr_min_le_init _ _
  have hle : baseLimit x a (computeSplit x).dUsed ≤ 8000 := by
    unfold baseLimit
    split
    · split
      exacts [hregen, hdrive]
    · exact Nat.zero_le _
  exact_mod_cast hbase.trans hle

theorem mag_sent_le {x : Inputs} (h : InputsWf x) (m : Mode) (a : Axle) :
    mag ((sentCommands m (computeSplit x).command).get a) ≤ 8000 :=
  (mag_sentCommands_le m _ a).trans ((mag_command_le_request x a).trans
    ((mag_request_le_limit x a).trans (limit_mem h a).2))

/-- The Split Engine's values and the computation in flight are in their ranges. -/
def EngineIn (e : Engine) : Prop := EngineWf e ∧ ∀ x, e.inFlight = some x → InputsWf x

theorem engineWf_complete {x : Inputs} (h : InputsWf x) (s : State) :
    EngineWf (complete x s).engine := by
  have hd := dUsed_mem h
  have hshort := shortfall_le x
  obtain ⟨hcount, hvalue⟩ := hold_mem h
  rw [complete_engine]
  refine ⟨mag_sent_le h s.mode.state, hcount, hvalue, hd, sBase_mem h.1, limit_mem h,
    mag_sent_le h s.mode.state, shortfall_nonneg x, hshort.trans ?_⟩
  unfold mag
  omega

/-- What a computation in flight holds of other blocks is in range as those are. -/
def SourcesIn (s : State) : Prop :=
  ((((CountsIn s.params s.supervisor s.faults ∧ RecordsIn s.demand s.reference s.axles) ∧
    TableWf s.table) ∧ QueueAndShares s.queue s.maps s.engine.inFlight) ∧
    CorrectionsIn s.engine.corr s.params s.engine.inFlight)

theorem sourcesIn_kept : Kept SourcesIn :=
  (((countsIn_kept.and recordsIn_kept).and tableWf_kept).and queueAndShares_kept).and
    correctionsIn_kept

theorem inputsWf_readInputs {s : State} (h : SourcesIn s) (he : EngineWf s.engine) :
    InputsWf (readInputs (startProgram s)) := by
  obtain ⟨⟨⟨⟨⟨hps, -⟩, hd, hr, -, ha⟩, ht⟩, hq, hm, -⟩, hc, -⟩ := h
  obtain ⟨hprev, hcount, hvalue, -⟩ := he
  refine ⟨shareInputsWf_readInputs (queueWf_startProgram hq) (by simpa using hm),
    by simpa [readInputs] using hd, by simpa [readInputs] using hr, fun a => ?_, fun e he => ?_,
    fun i => by simpa [readInputs] using hps i, by simpa [readInputs] using hc,
    by simpa [readInputs] using hprev, by simpa [readInputs] using hcount,
    by simpa [readInputs] using hvalue⟩
  · obtain ⟨h1, h2, h3, h4, -⟩ := ha a
    exact ⟨by simpa [readInputs] using h1, by simpa [readInputs] using h2,
      by simpa [readInputs] using h3, by simpa [readInputs] using h4⟩
  · have htable : (readInputs (startProgram s)).constraints =
        s.table.map fun e => (e.constraint, e.value) := by simp [readInputs]
    rw [htable] at he
    obtain ⟨y, hy, rfl⟩ := List.mem_map.1 he
    obtain ⟨-, -, -, -, hvalue⟩ := (tableWf_iff.1 ht).2.2 y hy
    exact hvalue

theorem engineWf_reset : EngineWf Engine.reset := by
  refine ⟨?_, by decide, by decide, by decide, by decide, ?_, ?_, by decide, by decide⟩
  all_goals rintro (_ | _) <;> decide

theorem engineIn_keptByEvents : KeptByEvents fun s => EngineIn s.engine :=
  .of (param := fun i v s _ _ _ h => by rw [writeParam_engine]; exact h)
    (run := fun s _ _ _ h => by rw [enterRun_engine]; exact h)

theorem stored_kept : Kept fun s => SourcesIn s ∧ EngineIn s.engine :=
  sourcesIn_kept.andAlso engineIn_keptByEvents
    (fun _ _ _ => ⟨engineWf_reset, fun x hx => absurd hx (by simp)⟩)
    (fun x s hx _ h => ⟨engineWf_complete (h.2 x hx) s, fun y hy => absurd hy (by simp)⟩)
    (fun s h he => by
      rw [startComputation_engine]
      refine ⟨he.1, fun x hx => ?_⟩
      obtain rfl := Option.some.inj hx
      exact inputsWf_readInputs h he.1)
    (interval := fun s h => by rw [beginInterval_engine]; exact h)
    (started := fun _ _ h => h)

theorem storedWf_iff (s : State) : StoredWf s ↔ SourcesIn s ∧ EngineIn s.engine :=
  ⟨fun ⟨hc, hm, hr, ht, hq, hcorr, he, hi⟩ =>
      ⟨⟨⟨⟨⟨hc, hr⟩, ht⟩, hq, hm, fun x hx => (hi x hx).1⟩, hcorr⟩, he, hi⟩,
    fun ⟨⟨⟨⟨⟨hc, hr⟩, ht⟩, hq, hm, _⟩, hcorr⟩, he, hi⟩ => ⟨hc, hm, hr, ht, hq, hcorr, he, hi⟩⟩

/-- Settles O15: what a computation reads is in range, and so is what it hands on. -/
theorem storedValuesStayInRange : Obligations.StoredValuesStayInRange := by
  refine ⟨fun _ _ hs hstep => countsIn_kept.ofStep hs hstep,
    fun _ _ hs hstep => mapsWf_kept.ofStep hs hstep,
    fun _ _ hs hstep => recordsIn_kept.ofStep hs hstep, fun s t hs hstep => ?_⟩
  rw [storedWf_iff] at hs ⊢
  exact stored_kept.ofStep hs hstep

end Sys2Proof.Machine
end

section
/-! PROOFS, spec 11: the Link Ports' invariants. First the frames' CRC, then a rule about one Link
Port that every operation keeps; the obligations are assembled with the chain of operations. -/
namespace Sys2Proof.Machine

/-! The CRC of a frame that the part sends (R167). -/

theorem highByte_append_lowByte (h : Half) : highByte h ++ lowByte h = h := by
  apply BitVec.eq_of_getLsbD_eq
  intro i hi
  simp only [highByte, lowByte, BitVec.getLsbD_append, BitVec.getLsbD_setWidth,
    BitVec.getLsbD_ushiftRight]
  by_cases h8 : i < 8
  · simp [h8]
  · have hlo : i - 8 < 8 := by omega
    have hsum : 8 + (i - 8) = i := by omega
    simp [h8, hlo, hsum]

theorem length_sealFrame (body : List Byte) : (sealFrame body).length = body.length + 2 := by
  simp [sealFrame]

theorem halfAt_sealFrame_crc (body : List Byte) :
    halfAt (sealFrame body) body.length = crc body := by
  have hlo : byteAt (sealFrame body) body.length = lowByte (crc body) := by
    simp [byteAt, sealFrame]
  have hhi : byteAt (sealFrame body) (body.length + 1) = highByte (crc body) := by
    simp [byteAt, sealFrame]
  rw [halfAt, hlo, hhi, highByte_append_lowByte]

/-- A frame sealed over eighteen bytes is good. -/
theorem goodFrame_sealFrame {body : List Byte} (h : body.length = 18) :
    goodFrame (sealFrame body) = true := by
  have htake : (sealFrame body).take 18 = body := by
    rw [sealFrame, ← h, List.take_left]
  rw [goodFrame, htake, ← h, halfAt_sealFrame_crc, beq_self_eq_true]

theorem length_frameBody (kind tag : Byte) {payload : List Byte} (h : payload.length ≤ 16) :
    (frameBody kind tag payload).length = 18 := by
  simp only [frameBody, List.length_cons, List.length_append, List.length_replicate]
  omega

/-- A frame of twenty bytes with a good CRC. -/
def FrameWf (bytes : List Byte) : Prop := bytes.length = 20 ∧ goodFrame bytes = true

theorem frameWf_sealFrame (kind tag : Byte) {payload : List Byte} (h : payload.length ≤ 16) :
    FrameWf (sealFrame (frameBody kind tag payload)) :=
  ⟨by rw [length_sealFrame, length_frameBody kind tag h],
    goodFrame_sealFrame (length_frameBody _ _ h)⟩

theorem frameWf_axleCmd (c : AxleCmd) : FrameWf c.bytes := frameWf_sealFrame _ _ (by simp)

theorem frameWf_reply (r : Reply) : FrameWf r.bytes := frameWf_sealFrame _ _ (by simp)

theorem frameWf_status (s : State) (p : Port) : FrameWf (statusBytes s p) :=
  frameWf_sealFrame _ _ (by simp)

/-! A rule about one Link Port that its sticky set and its status slot do not touch. -/

/-- The rule holds of every port. -/
def PortsAre (L : LinkPort → Prop) (x : PerPort LinkPort) : Prop := ∀ p, L (x.get p)

/-- What keeps such a rule, operation by operation on the port. -/
structure PortRule (L : LinkPort → Prop) : Prop where
  congr : ∀ {l l'},
    l'.receiver = l.receiver → l'.reply = l.reply → l'.sending = l.sending → L l → L l'
  reset : L LinkPort.reset
  hunt : ∀ l, L l → L { l with receiver := .hunt }
  ready : ∀ l, L l → L { l with receiver := .ready }
  firstByte : ∀ b l, L l → L { l with receiver := .receiving [b] }
  nextByte : ∀ held b l, l.receiver = .receiving held → held.length + 1 < 20 → L l →
    L { l with receiver := .receiving (held ++ [b]) }
  place : ∀ r l, L l → L { l with reply := some r }
  ended : ∀ (t : Transmission) l, L l →
    L { l with sending := none, reply := if t.slot = .reply then none else l.reply }
  choose : ∀ s p, L (s.port p) → L (arbitrated s p)

variable {L : LinkPort → Prop}

theorem PortsAre.set {x : PerPort LinkPort} (h : PortsAre L x) (p : Port) {l : LinkPort}
    (hl : L l) :
    PortsAre L (x.set p l) := by
  intro q
  rw [PerPort.get_set]
  split
  exacts [hl, h q]

/-- An operation that moves no receiver, no reply slot and no transmission keeps the rule. -/
theorem PortRule.same (R : PortRule L) {x y : PerPort LinkPort} (h : PortsAre L x)
    (e : ∀ q, (y.get q).receiver = (x.get q).receiver ∧ (y.get q).reply = (x.get q).reply ∧
      (y.get q).sending = (x.get q).sending) : PortsAre L y := fun q =>
  have ⟨h1, h2, h3⟩ := e q
  R.congr h1 h2 h3 (h q)

theorem PortRule.triggered (R : PortRule L) {s : State} (h : PortsAre L s.ports) :
    PortsAre L (triggerStatusAll s).ports :=
  R.same h fun q => by simp [triggerStatusAll]

theorem PortRule.enters (R : PortRule L) (f : FaultId) {s : State} (h : PortsAre L s.ports) :
    PortsAre L (enterFault f s).ports :=
  R.same h fun q => ⟨enterFault_receiver f s q, enterFault_reply f s q, enterFault_sending f s q⟩

theorem PortRule.observes (R : PortRule L) (f : FaultId) (b : Bool) {s : State}
    (h : PortsAre L s.ports) : PortsAre L (observe f b s).ports := by
  have hqualify : ∀ n, PortsAre L (qualify f n s).ports := by
    intro n
    unfold qualify
    dsimp only
    split
    · exact R.enters f (by simpa using h)
    · simpa using h
  unfold observe
  cases hs : (s.faults.get f).state <;> cases b <;> simp only [hs]
  case clear.true => exact hqualify _
  case pending.true => exact hqualify _
  all_goals simpa using h

theorem PortRule.completes (R : PortRule L) (x : Inputs) {s : State} (h : PortsAre L s.ports) :
    PortsAre L (complete x s).ports := by
  have hobserved : PortsAre L (handObservations x
      (placeCommands (computeSplit x).available (publish (computeSplit x) s))).ports :=
    R.observes _ _ (R.observes _ _ (R.observes _ _ (R.observes _ _ (by simpa using h))))
  unfold complete cadence
  dsimp only
  split
  · exact R.triggered (by simpa using hobserved)
  · simpa using hobserved

theorem PortRule.marks (R : PortRule L) (p : Port) (b : Bool) {s : State} (h : PortsAre L s.ports) :
    PortsAre L (markIfClamped p b s).ports := by
  unfold markIfClamped markClamped
  dsimp only
  split
  · exact h.set p (R.congr (l := s.port p) rfl rfl rfl (h p))
  · exact h

theorem PortRule.keptByEvents (R : PortRule L) : KeptByEvents fun s => PortsAre L s.ports :=
  .of (hunt := fun p s h => h.set p (R.hunt _ (h p)))
    (ready := fun p s h => h.set p (R.ready _ (h p)))
    (firstByte := fun p b s h => h.set p (R.firstByte b _ (h p)))
    (nextByte := fun p held b s hr hl h => h.set p (R.nextByte held b _ hr hl (h p)))
    (choose := fun p s h q => by
      have e := startTransmitter_port p q s
      rw [State.port] at e
      rw [e]
      split
      exacts [R.choose s p (h p), h q])
    (place := fun p r s _ h => h.set p (R.place r _ (h p)))
    (linkError := fun p s h => h.set p (R.congr (l := s.port p) rfl rfl rfl (h p)))
    (overrun := fun p s h => h.set p (R.congr (l := s.port p) rfl rfl rfl (h p)))
    (demand := fun p t b s h => by
      unfold storeDemand
      dsimp only
      split <;> exact R.marks p _ (s := s.withDemand _) h)
    (envelope := fun p d r v b s h => by
      unfold storeEnvelope
      split
      · exact R.marks p _ (s := s.withAxles _) h
      · exact h)
    (reference := fun p v b s h => R.marks p _ (s := s.withReference _) h)
    (poll := fun p s h => h.set p (R.congr (l := s.port p) rfl rfl rfl (h p)))
    (run := fun s _ _ _ h => R.triggered (by simpa using h))
    (halt := fun s _ h => R.triggered (by simpa using h))
    (config := fun s _ h => R.triggered (by simpa using h))
    (pass := fun p ahead s _ _ h => R.same h fun q =>
      ⟨passDeadline_receiver p ahead s q, passDeadline_reply p ahead s q,
        passDeadline_sending p ahead s q⟩)
    (ended := fun p s h => by
      unfold endTransmission
      dsimp only
      split
      · exact h
      · exact h.set p (R.ended _ _ (h p)))

theorem PortRule.kept (R : PortRule L) : Kept fun s => PortsAre L s.ports :=
  .of R.keptByEvents (fun _ _ _ p => by cases p <;> exact R.reset)
    (complete := fun x _ _ h => R.completes x h)

/-! The transmit side (R167, R173, R176). -/

/-- The frame on a port's line is good, and a REPLY on it still occupies its slot. -/
def SendsWf (l : LinkPort) : Prop :=
  ∀ t, l.sending = some t → FrameWf t.bytes ∧ (t.slot = .reply → l.reply ≠ none)

/-- What arbitration chooses: the frame of a slot, which for a REPLY stays occupied. -/
theorem sendsWf_arbitrated {s : State} {p : Port} (h : SendsWf (s.port p)) :
    SendsWf (arbitrated s p) := by
  unfold arbitrated
  dsimp only
  split
  case h_1 => exact h
  case h_2 c _ _ =>
    intro t ht
    obtain rfl := Option.some.inj ht
    exact ⟨frameWf_axleCmd c, nofun⟩
  case h_3 r _ _ hr =>
    intro t ht
    obtain rfl := Option.some.inj ht
    exact ⟨frameWf_reply r, fun _ => by simp [hr]⟩
  case h_4 =>
    intro t ht
    obtain rfl := Option.some.inj ht
    exact ⟨frameWf_status s p, nofun⟩
  case h_5 => exact h

theorem sendsWf_rule : PortRule SendsWf where
  congr _ hr hs h t ht := by rw [hr]; exact h t (hs.symm.trans ht)
  reset := nofun
  hunt _ h := h
  ready _ h := h
  firstByte _ _ h := h
  nextByte _ _ _ _ _ h := h
  place _ _ h t ht := ⟨(h t ht).1, fun _ => nofun⟩
  ended _ _ _ := nofun
  choose _ _ h := sendsWf_arbitrated h

theorem transmitWf_iff (s : State) :
    TransmitWf s ↔ (joinsInstant s = false → Quiet s) ∧ PortsAre SendsWf s.ports :=
  and_congr_right fun _ => forall₂_congr fun _ _ => forall_congr' fun _ => and_assoc.symm

/-- A step that ends its instant leaves no idle transmitter with a frame; the idle step changes
nothing. -/
theorem step_quiet {s t : State} (hs : joinsInstant s = false → Quiet s) (h : step s = .next t) :
    joinsInstant t = false → Quiet t := by
  unfold step at h
  cases hp : s.pending with
  | nil =>
    rw [hp] at h
    obtain rfl := Host.Outcome.next.inj h
    exact hs
  | cons c rest =>
    rw [hp] at h
    dsimp only at h
    rw [exec_eq] at h
    obtain rfl := Host.Outcome.next.inj h
    intro hj
    rw [joinsInstant_congr (closed_timing _ _)] at hj
    exact (closed_settled hj).2.2.2

/-- Settles O16: arbitration at the end of an instant, and good frames from every slot. -/
theorem transmittersNeverIdleWithAFrame : Obligations.TransmittersNeverIdleWithAFrame := by
  intro s t hs hstep
  rw [transmitWf_iff] at hs ⊢
  exact ⟨step_quiet hs.1 hstep, sendsWf_rule.kept.ofStep hs.2 hstep⟩

/-! The receive side (R165) and the block while RESET is asserted (R159). -/

/-- A frame in reception holds one to nineteen bytes. -/
def HoldsWf (l : LinkPort) : Prop :=
  ∀ held, l.receiver = .receiving held → 1 ≤ held.length ∧ held.length ≤ 19

theorem holdsWf_rule : PortRule HoldsWf where
  congr hr _ _ h held hh := h held (hr.symm.trans hh)
  reset := nofun
  hunt _ _ := nofun
  ready _ _ := nofun
  firstByte b _ _ held hh := by
    obtain rfl := Receiver.receiving.inj hh
    exact ⟨le_rfl, by simp⟩
  nextByte old b _ _ hl _ held hh := by
    obtain rfl := Receiver.receiving.inj hh
    rw [List.length_append, List.length_singleton]
    exact ⟨Nat.le_add_left 1 _, Nat.le_of_lt_succ hl⟩
  place _ _ h := h
  ended _ _ h := h
  choose s p h held hh := h held ((arbitrated_receiver s p).symm.trans hh)

/-- No operation but that of RESET_ASSERT asserts RESET. -/
theorem resetReleased_keptInTime : KeptInTime fun s => s.lines.reset = false where
  toKeptByEvents := .of
  complete _ _ _ h := by simpa using h
  interval _ h := by simpa using h
  compute _ h := by simpa using h
  count _ h := by simpa using h
  leaveTimed _ _ h := by simpa using h

/-- The block holds its reset values under RESET: it does so at the assertion, and nothing moves
after. -/
theorem exec_resetHolds {c : Instr} {s t : State} (hs : ResetHolds s) (h : exec c s = .next t) :
    ResetHolds t := by
  by_cases hc : c = .resetAssert
  · subst hc
    rw [exec_resetAssert] at h
    obtain rfl := Host.Outcome.next.inj h
    exact fun _ => rfl
  intro ht
  cases hr : s.lines.reset with
  | false =>
    refine absurd ht (Bool.not_eq_true _ ▸ ?_)
    by_cases hc' : c = .resetRelease
    · subst hc'
      rw [exec_eq] at h
      obtain rfl := Host.Outcome.next.inj h
      simp [effect, hr]
    · exact resetReleased_keptInTime.ofExec (s := s) hc hc' hr h
  | true =>
    obtain ⟨hother, hassert, hrelease⟩ := nothingMovesWhileResetIsAsserted s hr hs
    have e := hs hr
    generalize s.lines.shutoff = sh at e
    generalize s.instant.timing = ts at e
    generalize s.pending = cs at e
    subst e
    by_cases h1 : c = .shutoffAssert
    · subst h1
      rw [exec_shutoffAssert_of_reset] at h
      obtain rfl := Host.Outcome.next.inj h
      rfl
    by_cases h2 : c = .shutoffRelease
    · subst h2
      rw [exec_shutoffRelease_of_reset] at h
      obtain rfl := Host.Outcome.next.inj h
      rfl
    by_cases h3 : c = .resetRelease
    · subst h3
      rw [exec_resetRelease_resetAsserted] at h
      obtain rfl := Host.Outcome.next.inj h
      cases ht
    · rw [exec_of_reset h1 h2 h3] at h
      obtain rfl := Host.Outcome.next.inj h
      rfl

/-- What every command keeps, a step keeps where it does not see the queue of commands. -/
theorem step_resetHolds {s t : State} (hs : ResetHolds s) (h : step s = .next t) :
    ResetHolds t := by
  unfold step at h
  cases hp : s.pending with
  | nil =>
    rw [hp] at h
    obtain rfl := Host.Outcome.next.inj h
    exact hs
  | cons c rest =>
    rw [hp] at h
    refine exec_resetHolds (s := s.withPending rest) (fun hr => ?_) h
    conv_lhs => rw [hs hr]
    rfl

/-- Settles O17. -/
theorem receptionAndResetStayWellFormed : Obligations.ReceptionAndResetStayWellFormed :=
  ⟨fun _ _ hs hstep => holdsWf_rule.kept.ofStep hs hstep,
    fun _ _ hs hstep => step_resetHolds hs hstep⟩

/-! The reset state. -/

/-- Settles O6: each invariant at reset, most of them as RESET_ASSERT leaves it. -/
theorem resetStateMeetsEveryInvariant : Obligations.ResetStateMeetsEveryInvariant := by
  have hcorr : CorrectionsIn ⟨0, 0⟩ paramDefaults none :=
    ⟨zero_mem_corrections _, fun y hy => absurd hy (by simp)⟩
  have hcounts : CountsIn paramDefaults Supervisor.disarmed State.reset.faults :=
    ⟨paramsWf_defaults, fun p => by rw [disarmed_get]; exact Nat.zero_le _, faultCountWf_reset⟩
  have hshares : SharesWf State.reset := ⟨mapsWf_reset, fun x hx => absurd hx nofun⟩
  have hport : ∀ p, State.reset.port p = LinkPort.reset := by intro p; cases p <;> rfl
  refine ⟨(faultLineAgrees_iff _).2 (by unfold LineSettled; decide), tableWf_nil, queueWf_empty,
    hshares, nofun, hcorr, ⟨rfl, rfl⟩, slotsWf_empty, recordWf_reset, supervisorIn_disarmed rfl,
    (faultMonitorWf_iff _).2 (faultsIn_reset _ fun p => by cases p <;> rfl), hcounts,
    fun h => absurd rfl h, mapsWf_reset, recordsIn_reset, ?_, (transmitWf_iff _).2 ⟨fun _ => ?_,
    fun p => ?_⟩, fun p => ?_, nofun⟩
  · exact ⟨hcounts, mapsWf_reset, recordsIn_reset, tableWf_nil, queueWf_empty, hcorr,
      engineWf_reset,
      fun x hx => absurd hx nofun⟩
  · exact quiet_of_reset_blocks hport rfl
  · cases p <;> exact sendsWf_rule.reset
  · rw [hport]
    exact holdsWf_rule.reset

end Sys2Proof.Machine
end

section
/-! PROOFS, spec 11 (R169 to R171): the arrival of a frame that leaves a REPLY. One rule for a REPLY
that can be placed and one for a slot that is occupied; the refusals are uses of them. -/
namespace Sys2Proof.Machine

/-! The refresh (R91, R92, R140). -/

/-- Settles O25: the three cases of a refresh, written out. -/
theorem goodFramesRefreshTheDeadline : Obligations.GoodFramesRefreshTheDeadline := by
  intro s p
  dsimp only
  have hfresh : ∀ d : Deadline, d.freshness = .fresh →
      ({ d with remaining := window s p } : Deadline) = ⟨.fresh, window s p, d.countedAhead⟩ := by
    rintro ⟨f, n, b⟩ rfl
    rfl
  rcases refreshPort_cases p s with ⟨ha, h⟩ | ⟨ha, hd, h⟩ | ⟨ha, hd, h⟩
  · exact ⟨fun _ => h, fun harmed => by simp [ha] at harmed⟩
  · refine ⟨fun harmed => by simp [ha] at harmed, fun _ => ⟨fun _ => ?_, fun hstale => ?_⟩⟩
    · rw [h, restartedDeadline, hfresh _ hd]
      rfl
    · simp [hd] at hstale
  · refine ⟨fun harmed => by simp [ha] at harmed, fun _ => ⟨fun hor => ?_, fun _ hactive => ?_⟩⟩
    · have hactive : (s.faults.get (linkFault p)).state ≠ .active :=
        hor.resolve_left (by simp [hd])
      rw [h, freshEvent, if_neg (by simpa [setDeadline] using hactive)]
      rfl
    · rw [h, freshEvent, if_pos (by simpa [setDeadline] using hactive)]
      rfl

/-! The taking of a frame on the block that its command finds. -/

theorem frameArrives_opened {c : Instr} {p : Port} {s : State} (h : canArrive s p c = true)
    (take : State → State) : frameArrives c p take (opened s) = take (heard p (opened s)) := by
  rw [frameArrives_eq, canArrive_opened, if_pos h]

theorem permitted_refreshed (s : State) (p : Port) (k : Kind) :
    permitted (heard p (refreshPort p (opened s))) p k = permitted s p k :=
  permitted_congr (by simp) p k

/-- With the slot empty the owner's answer is the REPLY (R171, step 5). -/
theorem answerFrame_of_empty {p : Port} {u v : State} {code : ReplyCode} {value : Nat}
    {decide : State → Answer} (hr : (u.port p).reply = none)
    (h : decide (heard p u) = ⟨heard p v, code, value⟩) (tag kind : Byte) :
    answerFrame p tag kind decide (heard p u) = replied p tag kind code value v := by
  have hempty : replyOccupied (heard p u) p = false := by simp [replyOccupied, hr]
  rw [answerFrame, hempty, h]
  exact placeReply_heard _ _ _

/-- With the slot occupied the frame is discarded (R171, step 4). -/
theorem answerFrame_of_occupied {p : Port} {u : State} (hr : (u.port p).reply ≠ none)
    (tag kind : Byte)
    (decide : State → Answer) :
    answerFrame p tag kind decide (heard p u) = markOverrun p (heard p u) := by
  have hfull : replyOccupied (heard p u) p = true := by
    simpa [replyOccupied, Option.isSome_iff_ne_none] using hr
  rw [answerFrame, hfull, if_pos rfl]

theorem reply_refreshed (s : State) (p : Port) :
    ((refreshPort p (opened s)).port p).reply = (s.port p).reply := by
  rw [refreshPort_port, opened_reply]

/-- A request whose REPLY can be placed does what its owner answers after the refresh (R171). -/
theorem exec_of_request {c : Instr} {p : Port} {tag : Byte} {k : Kind} {owner : State → Answer}
    {s v : State} {code : ReplyCode} {value : Nat}
    (hc : ∀ o, effect c o = frameArrives c p (takeRequest p tag k owner)) (ha : Answerable s p c)
    (hp : permitted s p k = true)
    (h : owner (heard p (refreshPort p (opened s))) = ⟨heard p v, code, value⟩) :
    exec c s = .next (closed s (replied p tag k.code code value v)) := by
  obtain ⟨harrive, hreply⟩ := ha
  refine exec_eq_closed ?_
  rw [hc, frameArrives_opened harrive, takeRequest, refreshPort_heard]
  refine answerFrame_of_empty ((reply_refreshed s p).trans hreply) ?_ tag k.code
  rw [permitted_refreshed, hp, if_pos rfl, h]

/-- A frame of a known kind that is not permitted is answered without its owner (R170, R171). -/
theorem exec_of_not_permitted {c : Instr} {p : Port} {k : Kind} {tag : Byte} {s : State}
    (hc : frameOf c = some (p, k, tag)) (hp : permitted s p k = false)
    (ha : canArrive s p c = true) :
    exec c s = .next (closed s (answerFrame p tag k.code (fun x => refuse x .permission)
      (heard p (refreshPort p (opened s))))) := by
  have hpermit : permitted (heard p (opened s)) p k = false := by
    rw [← hp]
    exact permitted_congr (by simp) p k
  rcases exec_frameOf hc with ⟨_, owner, he⟩ | ⟨_, record, he⟩ | ⟨_, r, record, he⟩
  · rw [he, event, frameArrives_opened ha, takeRequest, refreshPort_heard]
    simp only [answerFrame, permitted_refreshed, hp, Bool.false_eq_true, if_false]
  · rw [he, event, frameArrives_opened ha, takeStreaming, refreshPort_heard]
    simp only [permitted_refreshed, hp, Bool.false_eq_true, if_false]
  · rw [he, event, frameArrives_opened ha, takeRecord, hpermit, refreshPort_heard]
    rfl

/-- Settles O26. -/
theorem framesWithoutPermissionAreRefused : Obligations.FramesWithoutPermissionAreRefused := by
  refine ⟨fun s p k => ?_, fun c p k tag s hc hp ha => ?_⟩
  · cases k <;> simp [permitted, State.param]
  · rw [exec_of_not_permitted hc hp ha.1,
      answerFrame_of_empty ((reply_refreshed s p).trans ha.2) rfl]

/-- Settles O27: a frame that would produce a REPLY is a request, or is not permitted. -/
theorem overrunFramesAreDiscarded : Obligations.OverrunFramesAreDiscarded := by
  intro c p k tag s hc hsilent ha hreply
  have hfull : ((refreshPort p (opened s)).port p).reply ≠ none := by
    rwa [reply_refreshed]
  cases hp : permitted s p k with
  | false => rw [exec_of_not_permitted hc hp ha, answerFrame_of_occupied hfull]
  | true =>
    have hspeaks : k.silent ≠ true := fun h => by simp [hsilent h] at hp
    rcases exec_frameOf hc with ⟨_, owner, he⟩ | ⟨h, _⟩ | ⟨h, _⟩
    · rw [he, event, frameArrives_opened ha, takeRequest, refreshPort_heard,
        answerFrame_of_occupied hfull]
    · exact absurd h hspeaks
    · exact absurd h hspeaks

/-- Settles O28. -/
theorem unknownKindsAreRefused : Obligations.UnknownKindsAreRefused := by
  refine ⟨rfl, fun k hk => ?_, fun s p tag kind hkind => ?_⟩
  · rcases hk with rfl | rfl | rfl <;> decide
  have hwf : (Instr.unknownKind p tag kind).wellFormed = true := by
    simpa [Instr.wellFormed] using hkind
  have he : canArrive s p (.unknownKind p tag kind) = true →
      effect (.unknownKind p tag kind) (timingOf s).order (opened s) =
        answerFrame p tag kind (fun x => refuse x .unknownKind)
          (heard p (refreshPort p (opened s))) := by
    intro ha
    simp only [effect, hwf, if_true]
    rw [frameArrives_opened ha, takeUnknown, refreshPort_heard]
  refine ⟨fun ha => exec_eq_closed ?_, fun ha hreply => exec_eq_closed ?_⟩
  · rw [he ha.1, answerFrame_of_empty ((reply_refreshed s p).trans ha.2) rfl]
  · rw [he ha, answerFrame_of_occupied (by rwa [reply_refreshed])]

end Sys2Proof.Machine
end

section
/-! PROOFS, specs 03, 07, 08 and 10: the requests of the tables and stores. What each block answers
is said for the block that hears the frame; the rule of the arrival of a request makes it the
command's effect. -/
namespace Sys2Proof.Machine

/-! The Map Store's selections (R49). -/

/-- Settles O36. -/
theorem selectMapsSetsBothSelections : Obligations.SelectMapsSetsBothSelections := by
  intro s p tag drive regen c u hp ha
  refine ⟨fun hout => ?_, fun d r hd hr => ?_⟩
  · refine exec_of_request (k := .selectMaps) (fun _ => rfl) ha hp ?_
    rw [selectMapsAnswer, dif_neg (by omega)]
    rfl
  · have hin : drive.toNat < 4 ∧ regen.toNat < 4 := ⟨hd ▸ d.isLt, hr ▸ r.isLt⟩
    obtain rfl : d = ⟨drive.toNat, hin.1⟩ := Fin.ext hd
    obtain rfl : r = ⟨regen.toNat, hin.2⟩ := Fin.ext hr
    refine exec_of_request (k := .selectMaps) (fun _ => rfl) ha hp ?_
    rw [selectMapsAnswer, dif_pos hin]
    rfl

/-! The Intervention Table's requests (R100 to R103, R108, R109). -/

theorem table_heard_refreshed (s : State) (p : Port) :
    (heard p (refreshPort p (opened s))).table = s.table := by simp

/-- Settles O43. -/
theorem releaseRemovesItsEntry : Obligations.ReleaseRemovesItsEntry := by
  intro s tag id c u ha
  have ht : (heard .ps u).table = s.table := table_heard_refreshed s .ps
  refine ⟨fun h0 => ?_, fun h0 hnone => ?_, fun h0 hsome => ?_⟩
  · refine exec_of_request (k := .release) (fun _ => rfl) ha rfl ?_
    rw [releaseAnswer, if_pos h0]
    rfl
  · refine exec_of_request (k := .release) (fun _ => rfl) ha rfl ?_
    have hno : hasEntry (heard .ps u).table id.toNat ≠ true := by
      rw [ht, Ne, hasEntry_iff]
      rintro ⟨x, hx, e⟩
      exact hnone x hx e
    rw [releaseAnswer, if_neg h0, if_neg hno]
    rfl
  · refine ⟨dropEntry id.toNat s.table, ?_, fun x => by simp [dropEntry]⟩
    refine exec_of_request (k := .release) (fun _ => rfl) ha rfl ?_
    have hyes : hasEntry (heard .ps u).table id.toNat = true := by
      rw [ht, hasEntry_iff]
      exact hsome
    rw [releaseAnswer, if_neg h0, if_pos hyes, ht]
    rfl

/-- The kind and axle codes that R100 admits. -/
def CodesAdmitted (kind axle : Byte) : Prop :=
  kind.toNat ≤ 3 ∧ (kind.toNat = 0 → axle.toNat ≤ 1)

theorem constraintOfCodes_eq_none {kind axle : Byte} (h : ¬ CodesAdmitted kind axle) :
    constraintOfCodes kind axle = none := by
  unfold CodesAdmitted at h
  unfold constraintOfCodes axleOfCode
  split <;> simp_all
  split <;> simp_all

/-- The constraint that a pair of admitted codes names, with the largest value of its kind (R100,
R101). -/
theorem constraintOfCodes_eq_some {kind axle : Byte} (h : CodesAdmitted kind axle) :
    ∃ con : Constraint, constraintOfCodes kind axle = some con ∧
      con = (if kind.toNat = 0 then .axleCap (if axle.toNat = 0 then .front else .rear)
        else if kind.toNat = 1 then .totalCap
        else if kind.toNat = 2 then .shareFloor else .shareCeil) ∧
      con.most = if kind.toNat ≤ 1 then 16000 else 1000 := by
  obtain ⟨hk, ha⟩ := h
  unfold constraintOfCodes axleOfCode
  generalize kind.toNat = k at hk ha
  generalize axle.toNat = a at ha
  interval_cases k
  · have ha := ha rfl
    interval_cases a <;> exact ⟨_, rfl, rfl, rfl⟩
  all_goals exact ⟨_, rfl, rfl, rfl⟩

theorem entryOf_eq_none {id kind axle : Byte} {value life : Half}
    (h : ¬ (1 ≤ id.toNat ∧ CodesAdmitted kind axle ∧ 1 ≤ life.toNat)) :
    entryOf id kind axle value life = none := by
  unfold entryOf
  by_cases hc : CodesAdmitted kind axle
  · obtain ⟨con, e, -⟩ := constraintOfCodes_eq_some hc
    rw [e]
    exact if_neg fun hr => h ⟨hr.1, hc, hr.2⟩
  · rw [constraintOfCodes_eq_none hc]

theorem entryOf_eq_some {id kind axle : Byte} {value life : Half} {con : Constraint} {most : Nat}
    (h : constraintOfCodes kind axle = some con) (hm : con.most = most) (hid : 1 ≤ id.toNat)
      (hl : 1 ≤ life.toNat) :
    entryOf id kind axle value life =
      some ⟨id.toNat, con, min value.toNat most, min life.toNat 1000⟩ := by
  unfold entryOf
  rw [h, ← hm]
  simp only [hid, hl, and_self, if_true, capNat_eq_min]
  rfl

/-- CLAMPED is answered when a value lies above its bound (R101). -/
theorem entryClamped_eq {n most : Nat} {con : Constraint} {value life : Half} :
    entryClamped ⟨n, con, min value.toNat most, min life.toNat 1000⟩ value life = true ↔
      most < value.toNat ∨ 1000 < life.toNat := by
  simp [entryClamped]

theorem interveneAnswer_of_entry {id kind axle : Byte} {value life : Half} {e : Entry}
    (h : entryOf id kind axle value life = some e) (s : State) :
    interveneAnswer id kind axle value life s =
      if (hasEntry s.table e.id || decide (s.table.length < 8)) = true then
        ⟨s.withTable (putEntry e s.table), if entryClamped e value life then .clamped else .ok, 0⟩
      else refuse s .full := by
  rw [interveneAnswer, h]
  rfl

/-- Settles O42: the entry's checks and clamps, then its place in the table. -/
theorem interveneReplacesOrInserts : Obligations.InterveneReplacesOrInserts := by
  intro s tag id kind axle value life c u inRange most con room ha hwf
  have ht : (heard .ps u).table = s.table := table_heard_refreshed s .ps
  have hroom : (hasEntry s.table id.toNat || decide (s.table.length < 8)) = true ↔ room := by
    rw [Bool.or_eq_true, decide_eq_true_eq, hasEntry_iff, or_comm]
  have hrange : inRange ↔ 1 ≤ id.toNat ∧ CodesAdmitted kind axle ∧ 1 ≤ life.toNat :=
    and_congr_right fun _ => and_assoc.symm
  refine ⟨fun hout => ?_, fun hin hfull => ?_, fun hin hfree => ?_⟩
  · refine exec_of_request (k := .intervene) (fun _ => rfl) ha rfl ?_
    rw [interveneAnswer, entryOf_eq_none (mt hrange.2 hout)]
    rfl
  all_goals
    obtain ⟨hid, hcodes, hlife⟩ := hrange.1 hin
    obtain ⟨con', hcon, rfl, hmost⟩ := constraintOfCodes_eq_some hcodes
    have hentry := entryOf_eq_some (value := value) hcon hmost hid hlife
  · refine exec_of_request (k := .intervene) (fun _ => rfl) ha rfl ?_
    rw [interveneAnswer_of_entry hentry, ht, if_neg (mt hroom.1 hfull)]
    rfl
  · refine ⟨putEntry ⟨id.toNat, con, min value.toNat most, min life.toNat 1000⟩ s.table, ?_,
      mem_putEntry hwf.2.1 _⟩
    refine exec_of_request (k := .intervene) (fun _ => rfl) ha rfl ?_
    rw [interveneAnswer_of_entry hentry, ht, if_pos (hroom.2 hfree)]
    simp only [entryClamped_eq]
    rfl

/-! The Program Queue's requests (R118 to R122, R128). -/

/-- The segment that a QUEUE_SEGMENT in range carries, none out of range (R119). -/
theorem segmentOf_eq {id shape e : Byte} {target duration : Half} :
    segmentOf id shape e target duration =
      if 1 ≤ id.toNat ∧ shape.toNat ≤ 1 ∧ target.toNat ≤ 1000 ∧ 1 ≤ duration.toNat ∧
          duration.toNat ≤ 4000 then
        some ⟨id.toNat, target.toNat, duration.toNat,
          if shape.toNat = 0 then .step else .ramp, e != 0#8⟩
      else none := by
  unfold segmentOf shapeOfCode
  generalize shape.toNat = k
  by_cases hk : k ≤ 1
  · interval_cases k <;> exact if_congr (by simp [Config.fullShare, Config.durationMax]) rfl rfl
  · obtain ⟨n, rfl⟩ : ∃ n, k = n + 2 := ⟨k - 2, by omega⟩
    simp

/-- Settles O41: the answer's checks in order, over the queue as complete programs and an incomplete
one. -/
theorem programRequestsChangeTheQueue : Obligations.ProgramRequestsChangeTheQueue := by
  refine ⟨?_, fun s p tag hp ha => exec_of_request (k := .abortProgram) (fun _ => rfl) ha hp rfl⟩
  intro s tag id shape e target duration kept tail c u gs inRange fits ha hgs htail hkept
  have hsegments : (heard .pv u).queue.segments = gs := rfl
  have hincomplete : incompleteTail gs = tail := by
    rw [hgs]
    exact incompleteTail_append hkept htail
  have hwithout : withoutIncomplete gs = kept := by
    rw [hgs]
    exact withoutIncomplete_append hkept htail
  refine ⟨fun hout => ?_, ?_⟩
  · refine exec_of_request (k := .queueSegment) (fun _ => rfl) ha rfl ?_
    rw [queueSegmentAnswer, segmentOf_eq, if_neg hout]
    rfl
  have hanswer : ∀ hin : inRange, queueSegmentAnswer id shape e target duration (heard .pv u) =
      if mismatches gs ⟨id.toNat, target.toNat, duration.toNat,
          if shape.toNat = 0 then .step else .ramp, e != 0#8⟩ then refuse (heard .pv u) .mismatch
      else if 16 ≤ gs.length then refuse (heard .pv u) .full
      else if 12 ≤ tail.length then
        ⟨(heard .pv u).withQueue (if kept = [] then ProgramQueue.empty
          else { u.queue with segments := kept }), .tooLong, 0⟩
      else taken ((heard .pv u).withQueue { u.queue with
        segments := gs ++ [⟨id.toNat, target.toNat, duration.toNat,
          if shape.toNat = 0 then .step else .ramp, e != 0#8⟩] }) := by
    intro hin
    rw [queueSegmentAnswer, segmentOf_eq, if_pos hin]
    dsimp only
    rw [hsegments, hincomplete, hwithout]
    rfl
  have hfits : fits ↔ mismatches gs ⟨id.toNat, target.toNat, duration.toNat,
      if shape.toNat = 0 then .step else .ramp, e != 0#8⟩ = false := by
    rw [mismatches_eq_false_iff, hincomplete]
  refine ⟨fun hin hno => ?_, fun hin hyes hfull => ?_, fun hin hyes hlt hlong => ?_,
    fun hin hyes hlt hshort => ?_⟩
  · refine exec_of_request (k := .queueSegment) (fun _ => rfl) ha rfl ?_
    rw [hanswer hin, if_pos (by simpa using mt hfits.2 hno)]
    rfl
  all_goals
    refine exec_of_request (k := .queueSegment) (fun _ => rfl) ha rfl ?_
    rw [hanswer hin, hfits.1 hyes, if_neg Bool.false_ne_true]
  · rw [if_pos hfull]
    rfl
  · rw [if_neg (by omega), if_pos hlong]
    rfl
  · rw [if_neg (by omega), if_neg (by omega)]
    rfl

end Sys2Proof.Machine
end

section
/-! PROOFS, spec 10: the Mode Controller and the Parameter Store. A change of mode leaves the port
that hears the frame alone, so that it is the same before the frame is heard. -/
namespace Sys2Proof.Machine

/-! The changes of mode, on the block that hears the frame (R155 to R157). -/

theorem triggered_set (x : PerPort LinkPort) (p : Port) (l : LinkPort) :
    triggered (x.set p l) = (triggered x).set p { l with statusWaiting := true } := by
  cases p <;> rfl

theorem get_triggered (x : PerPort LinkPort) (p : Port) :
    (triggered x).get p = { x.get p with statusWaiting := true } := PerPort.get_map _ _ _

/-- A trigger on every port does not read the receivers. -/
theorem triggerStatusAll_heard (p : Port) (s : State) :
    triggerStatusAll (heard p s) = heard p (triggerStatusAll s) := by
  have h : triggered (s.ports.set p { s.port p with receiver := .hunt }) =
      (triggered s.ports).set p { (triggered s.ports).get p with receiver := .hunt } := by
    rw [triggered_set, get_triggered]
    rfl
  exact congrArg s.withPorts h

theorem enterRun_heard (p : Port) (s : State) : enterRun (heard p s) = heard p (enterRun s) :=
  triggerStatusAll_heard p (armSupervisor (resetCorrections (s.withMode ⟨.run, true⟩)))

theorem enterHalt_heard (p : Port) (s : State) : enterHalt (heard p s) = heard p (enterHalt s) :=
  triggerStatusAll_heard p (abortQueue (setMode .halt s))

theorem enterConfig_heard (p : Port) (s : State) :
    enterConfig (heard p s) = heard p (enterConfig s) :=
  triggerStatusAll_heard p (clearLinkFaults
    (((abortQueue (setMode .config s)).withTable []).withSupervisor Supervisor.disarmed))

theorem mode_refreshed (s : State) (p : Port) : (refreshPort p (opened s)).mode = s.mode := by simp

theorem params_refreshed (s : State) (p : Port) : (refreshPort p (opened s)).params = s.params := by
  simp

theorem shutoff_refreshed (s : State) (p : Port) :
    (refreshPort p (opened s)).lines.shutoff = s.lines.shutoff := by simp

/-- Settles O38. -/
theorem stopAndShutoffEnterHalt : Obligations.StopAndShutoffEnterHalt := by
  constructor
  · intro s tag c u ha
    have hmode : (heard .pv u).mode = s.mode := mode_refreshed s .pv
    refine ⟨fun hm => ?_, fun hm => ?_, fun hm => ?_⟩
    all_goals
      refine exec_of_request (k := .stop) (fun _ => rfl) ha rfl ?_
      rw [stopAnswer, hmode, hm]
    · rfl
    · rfl
    · dsimp only
      rw [enterHalt_heard, ← hmode]
      rfl
  · intro s a
    have hmode : (opened s).mode = s.mode := by simp
    refine ⟨fun hr hm => ?_, fun hor => ?_, rfl⟩
    · refine exec_eq_closed ?_
      simp only [effect, hmode, hm, opened_lines_reset, hr, Bool.not_false, Bool.true_and,
        beq_self_eq_true, if_true]
      rw [← hmode]
      rfl
    · refine exec_eq_closed (if_neg ?_)
      rw [hmode, opened_lines_reset]
      rcases hor with hr | hm
      · simp [hr]
      · simp [hm]

/-- Settles O39: LINK_V and LINK_S are cleared one after the other, and the line follows both. -/
theorem configureEntersConfig : Obligations.ConfigureEntersConfig := by
  intro s tag c u fs ha
  have hmode : (heard .pv u).mode = s.mode := mode_refreshed s .pv
  refine ⟨fun hm => ?_, fun hm => ?_, fun hm => ?_⟩
  all_goals
    refine exec_of_request (k := .configure) (fun _ => rfl) ha rfl ?_
    rw [configureAnswer, hmode, hm]
  · rfl
  · rfl
  · dsimp only
    rw [enterConfig_heard, ← hmode, ← params_refreshed s .pv]
    rfl

/-! START (R153 to R155). -/

theorem strictlyAscending_iff (l : List Nat) : strictlyAscending l = true ↔ l.IsChain (· < ·) := by
  induction l with
  | nil => simp [strictlyAscending]
  | cons a l ih =>
    cases l with
    | nil => simp [strictlyAscending]
    | cons b l => simp [strictlyAscending, ih]

/-- A table of eight parameters ascends when each is below the next (R154). -/
theorem strictlyAscending_finRange (f : Fin 8 → Nat) :
    strictlyAscending ((List.finRange 8).map f) = true ↔
      ∀ i j : Fin 8, i.val + 1 = j.val → f i < f j := by
  rw [strictlyAscending_iff, List.isChain_iff_getElem]
  simp only [List.length_map, List.length_finRange, List.getElem_map, List.getElem_finRange]
  constructor
  · intro h i j hij
    have hj : j = ⟨i.val + 1, by omega⟩ := Fin.ext hij.symm
    rw [hj]
    exact h i.val (by omega)
  · intro h i hi
    exact h ⟨i, by omega⟩ ⟨i + 1, by omega⟩ rfl

theorem armedDeadline_eq (s : State) (p : Port) : armedDeadline s p =
    if (s.supervisor.deadlines.get p).freshness = .stale then s.supervisor.deadlines.get p
    else { s.supervisor.deadlines.get p with remaining := s.params.read (windowParam p) } := by
  unfold armedDeadline
  cases (s.supervisor.deadlines.get p).freshness <;> rfl

/-- Settles O37: the checks in their order, and the entry into RUN on the block after the
refresh. -/
theorem startEntersRun : Obligations.StartEntersRun := by
  constructor
  · intro ps
    simp only [consistent, Bool.and_eq_true, strictlyAscending_finRange, decide_eq_true_eq,
      ← forall_and]
  intro s tag c u restarted ha
  have hmode : (heard .pv u).mode = s.mode := mode_refreshed s .pv
  have hparams : (heard .pv u).params = s.params := params_refreshed s .pv
  have hshutoff : (heard .pv u).lines.shutoff = s.lines.shutoff := shutoff_refreshed s .pv
  refine ⟨fun hor => ?_, fun hm hs hc => ?_, fun hm hs hc => ?_⟩
  all_goals
    refine exec_of_request (k := .start) (fun _ => rfl) ha rfl ?_
    rw [startAnswer, hmode, hparams, hshutoff]
  · rcases hor with hm | hs
    · rw [if_pos hm]
      rfl
    · rw [if_pos hs, ite_self]
      rfl
  · rw [if_neg hm, hs, hc]
    rfl
  · have hdeadline : ∀ p, armedDeadline u p = restarted p := fun p => by
      rw [armedDeadline_eq, params_refreshed]
    rw [if_neg hm, hs, hc, enterRun_heard]
    simp only [restarted, ← hdeadline]
    rfl

/-! The Parameter Store (R161 to R164). -/

theorem paramOfId_eq_none {id : Byte} (h : 40 ≤ id.toNat) : paramOfId id = none :=
  dif_neg (by omega)

theorem paramOfId_eq_some {id : Byte} {i : Fin 40} (h : i.val = id.toNat) :
    paramOfId id = some i := by
  have hlt : id.toNat < 40 := h ▸ i.isLt
  rw [paramOfId, dif_pos hlt]
  exact congrArg some (Fin.ext h.symm)

theorem isWindow_iff (n : Nat) : Param.isWindow n = true ↔ 29 ≤ n ∧ n ≤ 32 := by
  simp [Param.isWindow]

/-- In CONFIG a known parameter is locked, written or out of range (R162). -/
theorem setParamAnswer_of_id {id : Byte} {i : Fin 40} {s : State} (hi : paramOfId id = some i)
    (hm : s.mode.state = .config) (value : Half) : setParamAnswer id value s =
      if (Param.isWindow i.val && s.mode.windowLock) = true then refuse s .locked
      else if paramAdmits i.val value.toNat = true then taken (writeParam i value.toNat s)
      else refuse s .range := by
  rw [setParamAnswer, if_pos hm, hi]

/-- What a write leaves, with R163's two effects. -/
theorem writeParam_eq (i : Fin 40) (v : Nat) (s : State) : writeParam i v s =
    { s with
      params := s.params.write i v
      engine := if i.val = 22 then
          { s.engine with corr := ⟨min s.engine.corr.front (v : Int),
            min s.engine.corr.rear (v : Int)⟩ }
        else s.engine
      lines := if i.val = 38 then
          { s.lines with fault := faultLineLevel (s.params.write i v) s.faults }
        else s.lines } := by
  unfold writeParam
  by_cases hcorr : i = Param.corrMax
  · subst hcorr
    rfl
  by_cases hmask : i = Param.lineMask
  · subst hmask
    rfl
  have h22 : i.val ≠ 22 := fun h => hcorr (Fin.ext h)
  have h38 : i.val ≠ 38 := fun h => hmask (Fin.ext h)
  rw [if_neg hcorr, if_neg hmask, if_neg h22, if_neg h38]
  rfl

/-- The model's table of ranges is R161's. -/
theorem paramRange_eq (i : Fin 40) : paramRange i.val =
    ([(500, 2000), (0, 2500), (0, 2500), (0, 2500), (0, 2500), (0, 2500), (0, 2500),
      (0, 2500), (0, 2500), (0, 16000), (0, 16000), (0, 16000), (0, 16000), (0, 16000), (0, 16000),
      (0, 16000), (0, 16000), (1, 2000), (1, 2000), (0, 500), (1, 64), (1, 100), (0, 600),
        (10, 200),
      (500, 8000), (0, 50), (10, 5000), (0, 7999), (1, 5000), (2, 200), (2, 200), (2, 200),
        (2, 200),
      (0, 500), (1, 2000), (0, 16000), (1, 64), (0, 3), (0, 255), (0, 3)] : List (Nat × Nat)).getD
        i.val (0, 0) := by
  revert i
  decide

theorem paramAdmits_iff (i v : Nat) : paramAdmits i v = true ↔
    (paramRange i).1 ≤ v ∧ v ≤ (paramRange i).2 ∧ (i = 0 → v = 500 ∨ v = 1000 ∨ v = 2000) := by
  simp only [paramAdmits, Bool.and_eq_true, Bool.or_eq_true, decide_eq_true_eq, bne_iff_ne,
    beq_iff_eq, and_assoc, or_assoc, imp_iff_not_or, ne_eq]

/-- Settles O34: the ranges by their table, the checks of a write in their order, and the value
read. -/
theorem parametersAreWrittenAndRead : Obligations.ParametersAreWrittenAndRead := by
  refine ⟨fun i v => ?_, ?_, ?_⟩
  · rw [paramAdmits_iff, paramRange_eq]
  · intro s tag id value c u ha
    have hmode : (heard .pv u).mode = s.mode := mode_refreshed s .pv
    refine ⟨fun hm => ?_, fun hm => ⟨fun hid => ?_, fun hlo hhi hlock => ?_, fun i hi hfree => ?_⟩⟩
    · refine exec_of_request (k := .setParam) (fun _ => rfl) ha rfl ?_
      rw [setParamAnswer, hmode, if_neg hm]
      rfl
    · refine exec_of_request (k := .setParam) (fun _ => rfl) ha rfl ?_
      rw [setParamAnswer, hmode, if_pos hm, paramOfId_eq_none hid]
      rfl
    · refine exec_of_request (k := .setParam) (fun _ => rfl) ha rfl ?_
      have hi : paramOfId id = some ⟨id.toNat, by omega⟩ := paramOfId_eq_some rfl
      have hwindow : Param.isWindow id.toNat = true := (isWindow_iff _).2 ⟨hlo, hhi⟩
      rw [setParamAnswer_of_id hi (hmode ▸ hm), hmode, hwindow, hlock]
      rfl
    · have hunlocked : (Param.isWindow i.val && s.mode.windowLock) = false := by
        rw [← Bool.not_eq_true, Bool.and_eq_true, isWindow_iff, hi, and_assoc]
        exact hfree
      refine ⟨fun hout => ?_, fun hin => ⟨u.params.write i value.toNat, ?_, fun j hj => ?_, ?_⟩⟩
      · refine exec_of_request (k := .setParam) (fun _ => rfl) ha rfl ?_
        rw [setParamAnswer_of_id (paramOfId_eq_some hi) (hmode ▸ hm), hmode, hunlocked, hout]
        rfl
      · rw [Params.read_write, if_pos rfl]
      · rw [Params.read_write, if_neg hj, params_refreshed]
      · refine exec_of_request (k := .setParam) (fun _ => rfl) ha rfl ?_
        rw [setParamAnswer_of_id (paramOfId_eq_some hi) (hmode ▸ hm), hmode, hunlocked, hin,
          writeParam_eq]
        rfl
  · intro s tag id u ha
    refine ⟨fun hid => ?_, fun i hi => ?_⟩
    · refine exec_of_request (k := .readParam) (fun _ => rfl) ha rfl ?_
      rw [readParamAnswer, paramOfId_eq_none hid]
      rfl
    · refine exec_of_request (k := .readParam) (fun _ => rfl) ha rfl ?_
      rw [readParamAnswer, paramOfId_eq_some hi, ← params_refreshed s .pv]
      rfl

end Sys2Proof.Machine
end

section
/-! PROOFS, spec 03 (R45 to R48) and spec 09 (R146, R147): WRITE_CELLS and CLEAR_FAULT. Each works
through a list, of cells or of faults; what the whole list does is said by induction on it. -/
namespace Sys2Proof.Machine

/-! Storing a list of cells (R45, R48). -/

theorem getElem?_storeCell (cells : Vector Nat 64) (w : Nat × Nat) {i : Nat} (hi : i < 64) :
    (storeCell cells w)[i]? = if w.1 = i then some w.2 else cells[i]? := by
  unfold storeCell
  split
  · next h => rw [Vector.getElem?_set]
  · next h => rw [if_neg (by omega)]

/-- A cell that is not addressed keeps its value. -/
theorem getElem?_storeCells_of_notMem {ws : List (Nat × Nat)} {i : Nat} (hi : i < 64)
    (h : ∀ w ∈ ws, w.1 ≠ i) (cells : Vector Nat 64) : (storeCells cells ws)[i]? = cells[i]? := by
  unfold storeCells
  induction ws generalizing cells with
  | nil => rfl
  | cons w ws ih =>
    obtain ⟨hw, hws⟩ := List.forall_mem_cons.1 h
    rw [List.foldl_cons, ih hws, getElem?_storeCell _ _ hi, if_neg hw]

/-- A cell that is addressed once takes its value. -/
theorem getElem?_storeCells_of_mem {ws : List (Nat × Nat)} (hn : (ws.map Prod.fst).Nodup)
    {w : Nat × Nat} (hw : w ∈ ws) (hi : w.1 < 64) (cells : Vector Nat 64) :
    (storeCells cells ws)[w.1]? = some w.2 := by
  unfold storeCells
  induction ws generalizing cells with
  | nil => cases hw
  | cons x ws ih =>
    rw [List.map_cons, List.nodup_cons] at hn
    obtain ⟨hx, hn⟩ := hn
    rw [List.foldl_cons]
    rcases List.mem_cons.1 hw with rfl | hw
    · have hother : ∀ y ∈ ws, y.1 ≠ w.1 := fun y hy e => hx (e ▸ List.mem_map_of_mem hy)
      have := getElem?_storeCells_of_notMem hi hother (storeCell cells w)
      rw [storeCells] at this
      rw [this, getElem?_storeCell _ _ hi, if_pos rfl]
    · exact ih hn hw _

theorem nodup_addressedCells {stride : Nat} (h : 0 < stride) (start count : Nat) :
    (addressedCells start stride count).Nodup := by
  refine List.Nodup.map (fun a b hab => ?_) List.nodup_range
  have hmul : a * stride = b * stride := Nat.add_left_cancel hab
  exact Nat.eq_of_mul_eq_mul_right h hmul

/-! The checks of R46. -/

theorem strideOfCode_eq (step : Byte) : strideOfCode step =
    if step.toNat ≤ 1 then some (if step.toNat = 0 then 1 else 8) else none := by
  unfold strideOfCode
  generalize step.toNat = k
  by_cases hk : k ≤ 1
  · interval_cases k <;> rfl
  · obtain ⟨n, rfl⟩ : ∃ n, k = n + 2 := ⟨k - 2, by omega⟩
    rfl

/-- Each of the first values is a share at most 1000 (R46). -/
def ValuesAdmitted (n : Nat) (vs : List Nat) : Prop := ∀ k, k < n → vs.getD k 0 ≤ 1000

theorem valuesAdmitted_iff {n : Nat} {vs : List Half} :
    ValuesAdmitted n (vs.map (·.toNat)) ↔
      (vs.take n).all (fun v => decide (v.toNat ≤ 1000)) = true := by
  rw [List.all_eq_true]
  simp only [decide_eq_true_eq]
  constructor
  · intro h v hv
    obtain ⟨k, hk, rfl⟩ := List.mem_take_iff_getElem.1 hv
    have := h k (by omega)
    rwa [List.getD_eq_getElem _ _ (by rw [List.length_map]; omega), List.getElem_map] at this
  · intro h k hk
    by_cases hlen : k < vs.length
    · rw [List.getD_eq_getElem _ _ (by rwa [List.length_map]), List.getElem_map]
      exact h _ (List.mem_take_iff_getElem.2 ⟨k, by omega, rfl⟩)
    · rw [List.getD_eq_default _ _ (by rw [List.length_map]; omega)]
      exact Nat.zero_le _

/-- The condition of R46 on a WRITE_CELLS, its stride read from the step code. -/
def WriteAdmitted (map start step count : Byte) (vs : List Nat) : Prop :=
  map.toNat ≤ 3 ∧ step.toNat ≤ 1 ∧ 1 ≤ count.toNat ∧ count.toNat ≤ 4 ∧ start.toNat ≤ 63 ∧
    start.toNat + (count.toNat - 1) * (if step.toNat = 0 then 1 else 8) ≤ 63 ∧
    ValuesAdmitted count.toNat vs

theorem cellWrite_of_admitted {map start step count : Byte} {vs : List Half}
    (h : WriteAdmitted map start step count (vs.map (·.toNat))) :
    ∃ hm : map.toNat < 4, cellWrite map start step count vs =
      some ⟨⟨map.toNat, hm⟩, (addressedCells start.toNat (if step.toNat = 0 then 1 else 8)
        count.toNat).zip (vs.map (·.toNat))⟩ := by
  obtain ⟨hmap, hstep, h1, h2, h3, h4, h5⟩ := h
  have hm : map.toNat < 4 := by omega
  refine ⟨hm, ?_⟩
  unfold cellWrite
  rw [strideOfCode_eq, if_pos hstep]
  dsimp only
  rw [dif_pos hm, if_pos ⟨h1, h2, h3, h4, valuesAdmitted_iff.1 h5⟩]

theorem cellWrite_of_not_admitted {map start step count : Byte} {vs : List Half}
    (h : ¬ WriteAdmitted map start step count (vs.map (·.toNat))) :
    cellWrite map start step count vs = none := by
  unfold cellWrite
  rw [strideOfCode_eq]
  by_cases hstep : step.toNat ≤ 1
  · rw [if_pos hstep]
    dsimp only
    split
    · next hm =>
      refine if_neg fun hr => h ?_
      obtain ⟨h1, h2, h3, h4, h5⟩ := hr
      exact ⟨by omega, hstep, h1, h2, h3, h4, valuesAdmitted_iff.2 h5⟩
    · rfl
  · rw [if_neg hstep]

theorem mapInUse_iff (s : State) (m : Fin 4) :
    mapInUse s m = true ↔ s.mode.state = .run ∧ (m = s.maps.drive ∨ m = s.maps.regen) := by
  simp [mapInUse]

theorem mapInUse_refreshed (s : State) (p : Port) (m : Fin 4) :
    mapInUse (heard p (refreshPort p (opened s))) m = mapInUse s m := by
  simp [mapInUse]

theorem writeCellsAnswer_of_write {map start step count : Byte} {vs : List Half} {w : CellWrite}
    (h : cellWrite map start step count vs = some w) (s : State) :
    writeCellsAnswer map start step count vs s =
      if mapInUse s w.map = true then refuse s .inUse else taken (writeMap w s) := by
  rw [writeCellsAnswer, h]

/-- Settles O35: a list of distinct cells, each in the map, or a refusal. -/
theorem writeCellsStoresOrRefusesWhole : Obligations.WriteCellsStoresOrRefusesWhole := by
  constructor
  · intro s tag m st step n v0 v1 v2 v3 vs c hstep hn1 hn4 hlast hvalues huse ha
    have hmap : (BitVec.ofNat 8 m.val).toNat = m.val := Nat.mod_eq_of_lt (by omega)
    have hst : (BitVec.ofNat 8 st).toNat = st := Nat.mod_eq_of_lt (by omega)
    have hn : (BitVec.ofNat 8 n).toNat = n := Nat.mod_eq_of_lt (by omega)
    have hcode : (if step = 1 then 0#8 else 1#8).toNat ≤ 1 ∧
        (if (if step = 1 then 0#8 else 1#8).toNat = 0 then 1 else 8) = step := by
      rcases hstep with rfl | rfl <;> decide
    have hadmitted : WriteAdmitted (BitVec.ofNat 8 m.val) (BitVec.ofNat 8 st)
        (if step = 1 then 0#8 else 1#8) (BitVec.ofNat 8 n) ([v0, v1, v2, v3].map (·.toNat)) := by
      rw [WriteAdmitted, hmap, hst, hn, hcode.2]
      exact ⟨by omega, hcode.1, hn1, hn4, by omega, hlast, hvalues⟩
    obtain ⟨hm, hwrite⟩ := cellWrite_of_admitted hadmitted
    have hfin : (⟨(BitVec.ofNat 8 m.val).toNat, hm⟩ : Fin 4) = m := Fin.ext hmap
    rw [hfin, hst, hn, hcode.2] at hwrite
    have hpos : 0 < step := by omega
    have hmem : ∀ k, k < n → (st + k * step, vs.getD k 0) ∈
        (addressedCells st step n).zip ([v0, v1, v2, v3].map (·.toNat)) := fun k hk =>
      mem_zip_addressedCells.2 ⟨k, hk, by simp; omega, by
        rw [List.getD_eq_getElem _ _ (show k < vs.length by simp [vs]; omega)]
        rfl⟩
    have hnodup : (((addressedCells st step n).zip ([v0, v1, v2, v3].map (·.toNat))).map
        Prod.fst).Nodup := by
      rw [List.map_fst_zip (by simpa [addressedCells] using hn4)]
      exact nodup_addressedCells hpos st n
    refine ⟨s.maps.setMap m (storeCells (s.maps.map m)
      ((addressedCells st step n).zip ([v0, v1, v2, v3].map (·.toNat)))), ?_, rfl, rfl,
      fun k hk => ?_, fun i hi hother => ?_, fun m' hm' => ?_⟩
    · refine exec_of_request (k := .writeCells) (fun _ => rfl) ha rfl ?_
      have hmaps : (refreshPort .pv (opened s)).maps = s.maps := by simp
      rw [writeCellsAnswer_of_write hwrite, mapInUse_refreshed,
        if_neg (mt (mapInUse_iff s m).1 huse),
        ← hmaps]
      rfl
    · have hcell : st + k * step < 64 := by
        have : k * step ≤ (n - 1) * step := Nat.mul_le_mul_right _ (by omega)
        omega
      rw [MapStore.map_setMap, if_pos rfl]
      exact getElem?_storeCells_of_mem hnodup (hmem k hk) hcell _
    · rw [MapStore.map_setMap, if_pos rfl]
      refine getElem?_storeCells_of_notMem hi (fun w hw e => ?_) _
      obtain ⟨k, hk, _, hwk⟩ := mem_zip_addressedCells.1 hw
      exact hother k hk (by rw [← e, hwk])
    · rw [MapStore.map_setMap, if_neg hm']
  · intro s tag map start step count v0 v1 v2 v3 c u stride good ha
    refine ⟨fun hout => ?_, fun hin hrun huse => ?_⟩
    · refine exec_of_request (k := .writeCells) (fun _ => rfl) ha rfl ?_
      rw [writeCellsAnswer, cellWrite_of_not_admitted (vs := [v0, v1, v2, v3]) hout]
      rfl
    · obtain ⟨hm, hwrite⟩ := cellWrite_of_admitted (vs := [v0, v1, v2, v3]) hin
      refine exec_of_request (k := .writeCells) (fun _ => rfl) ha rfl ?_
      have hin : mapInUse s ⟨map.toNat, hm⟩ = true :=
        (mapInUse_iff _ _).2 ⟨hrun, huse.imp Fin.ext Fin.ext⟩
      rw [writeCellsAnswer_of_write hwrite, mapInUse_refreshed, hin]
      rfl

/-! CLEAR_FAULT (R146, R147). -/

theorem faultCondition_iff (s : State) (f : FaultId) :
    FaultCondition s f ↔ conditionPresent s f = true := by
  constructor
  · rintro (⟨p, rfl, h⟩ | ⟨hne, h⟩)
    · rw [conditionPresent_linkFault, h]
      rfl
    · cases f
      case linkV => exact absurd rfl (hne .pv)
      case linkF => exact absurd rfl (hne .pf)
      case linkR => exact absurd rfl (hne .pr)
      case linkS => exact absurd rfl (hne .ps)
      all_goals exact h
  · intro h
    cases f
    case linkV => exact .inl ⟨.pv, rfl, beq_iff_eq.1 h⟩
    case linkF => exact .inl ⟨.pf, rfl, beq_iff_eq.1 h⟩
    case linkR => exact .inl ⟨.pr, rfl, beq_iff_eq.1 h⟩
    case linkS => exact .inl ⟨.ps, rfl, beq_iff_eq.1 h⟩
    all_goals exact .inr ⟨fun p => by cases p <;> nofun, h⟩

/-- A CLEAR_FAULT clears the fault: it is LATCHED and its condition absent (R146). -/
def Releases (s : State) (f : FaultId) : Prop :=
  (s.faults.get f).state = .latched ∧ conditionPresent s f = false

theorem releaseFault_of_releases {s : State} {f : FaultId} (h : Releases s f) :
    releaseFault f s = clearFault f s := by
  rw [releaseFault, if_pos]
  simp [latched, h.1, h.2]

theorem releaseFault_of_not {s : State} {f : FaultId} (h : ¬ Releases s f) :
    releaseFault f s = s := by
  rw [releaseFault, if_neg]
  simpa [latched, Releases] using h

/-- A clearing keeps every condition: it moves no deadline and no latest observation. -/
theorem conditionPresent_clearFault (f g : FaultId) (s : State) :
    conditionPresent (clearFault f s) g = conditionPresent s g := by
  cases f <;> cases g <;> rfl

/-- The record that CLEAR leaves of a fault. -/
def clearedRecord (r : FaultRecord) : FaultRecord := { r with state := .clear, count := 0 }

theorem releases_clearFault {f g : FaultId} {s : State} :
    Releases (clearFault f s) g ↔ g ≠ f ∧ Releases s g := by
  unfold Releases
  rw [conditionPresent_clearFault, clearFault_get]
  by_cases h : g = f
  · simp [h]
  · simp [h]

/-- What a CLEAR_FAULT of a list of faults leaves: each that it releases is cleared, every other
keeps its record, the FAULT line follows where one was cleared, and nothing else moves (R147,
R149). -/
structure ReleasedAll (l : List FaultId) (s t : State) : Prop where
  frame : t = { s with faults := t.faults, lines := { s.lines with fault := t.lines.fault } }
  cleared : ∀ f ∈ l, Releases s f → t.faults.get f = clearedRecord (s.faults.get f)
  kept : ∀ f, ¬ (f ∈ l ∧ Releases s f) → t.faults.get f = s.faults.get f
  line : t.lines.fault =
    if t.faults = s.faults then s.lines.fault else faultLineLevel s.params t.faults

theorem ReleasedAll.cons {f : FaultId} {l : List FaultId} {s t : State}
    (h : ReleasedAll l (releaseFault f s) t) : ReleasedAll (f :: l) s t := by
  by_cases hf : Releases s f
  · rw [releaseFault_of_releases hf] at h
    have hget : ∀ g, (clearFault f s).faults.get g =
        if g = f then clearedRecord (s.faults.get f) else s.faults.get g := (clearFault_get f · s)
    have hself : t.faults.get f = clearedRecord (s.faults.get f) := by
      rw [h.kept f fun hl => (releases_clearFault.1 hl.2).1 rfl, hget, if_pos rfl]
    refine ⟨h.frame, fun g hg hr => ?_, fun g hg => ?_, ?_⟩
    · by_cases hgf : g = f
      · rw [hgf, hself]
      · have hgl : g ∈ l := (List.mem_cons.1 hg).resolve_left hgf
        rw [h.cleared g hgl (releases_clearFault.2 ⟨hgf, hr⟩), hget, if_neg hgf]
    · have hgf : g ≠ f := fun e => hg ⟨e ▸ List.mem_cons_self, e ▸ hf⟩
      rw [h.kept g fun hl => hg ⟨List.mem_cons_of_mem _ hl.1, (releases_clearFault.1 hl.2).2⟩, hget,
        if_neg hgf]
    · have hne : t.faults ≠ s.faults := by
        intro e
        have hstate := hf.1
        rw [← e, hself] at hstate
        exact absurd hstate nofun
      rw [h.line, if_neg hne]
      split
      · next e =>
        rw [e]
        exact clearFault_settled f s
      · rfl
  · rw [releaseFault_of_not hf] at h
    refine ⟨h.frame, fun g hg hr => ?_,
      fun g hg => h.kept g fun hl => hg ⟨List.mem_cons_of_mem _ hl.1, hl.2⟩,
      h.line⟩
    have hgf : g ≠ f := fun e => hf (e ▸ hr)
    exact h.cleared g ((List.mem_cons.1 hg).resolve_left hgf) hr

theorem releasedAll_foldl (l : List FaultId) (s : State) :
    ReleasedAll l s (l.foldl (fun t f => releaseFault f t) s) := by
  induction l generalizing s with
  | nil => exact ⟨rfl, fun f hf => absurd hf List.not_mem_nil, fun _ _ => rfl, (if_pos rfl).symm⟩
  | cons f l ih => exact (ih (releaseFault f s)).cons

theorem faultOfId_id (f : FaultId) : faultOfId f.id = some f := by cases f <;> rfl

theorem faultOfId_eq_none {n : Nat} (h : 7 < n) : faultOfId n = none := by
  obtain ⟨m, rfl⟩ : ∃ m, n = m + 8 := ⟨n - 8, by omega⟩
  rfl

theorem clearFaultAnswer_of_id {id : Byte} (h : id ≠ 255#8) {f : FaultId} (hf : f.id = id.toNat)
    (s : State) : clearFaultAnswer id s =
      if (latched s f && conditionPresent s f) = true then refuse s .conditionPresent
      else taken (releaseFault f s) := by
  rw [clearFaultAnswer, if_neg h, ← hf, faultOfId_id]

theorem latched_iff (s : State) (f : FaultId) :
    latched s f = true ↔ (s.faults.get f).state = .latched := by simp [latched]

/-- Settles O40: one fault by its three cases, and all of them by the rule for a list. -/
theorem clearFaultTestsTheCondition : Obligations.ClearFaultTestsTheCondition := by
  constructor
  · intro s tag id c u ha hid
    refine ⟨fun hout => ?_, ?_⟩
    · refine exec_of_request (k := .clearFault) (fun _ => rfl) ha rfl ?_
      rw [clearFaultAnswer, if_neg hid, faultOfId_eq_none hout]
      rfl
    intro f hf fs
    rw [faultCondition_iff]
    refine ⟨fun hl => ?_, fun hl hc => ?_, fun hl hc => ?_⟩
    all_goals
      refine exec_of_request (k := .clearFault) (fun _ => rfl) ha rfl ?_
      rw [clearFaultAnswer_of_id hid hf]
    · have hno : latched (heard .pv u) f = false := by
        rw [← Bool.not_eq_true, latched_iff]
        exact hl
      rw [hno, releaseFault_of_not (s := heard .pv u) fun h => hl h.1]
      rfl
    · have hyes : latched (heard .pv u) f = true := (latched_iff _ _).2 hl
      have hcondition : conditionPresent (heard .pv u) f = true := by
        rw [← hc]
        cases f <;> rfl
      rw [hyes, hcondition]
      rfl
    · have hcondition : conditionPresent (heard .pv u) f = false := by
        rw [← Bool.eq_false_iff.2 hc]
        cases f <;> rfl
      rw [hcondition, Bool.and_false, releaseFault_of_releases (s := heard .pv u) ⟨hl, hcondition⟩,
        ← params_refreshed s .pv]
      rfl
  · intro s tag c u ha
    have hall := releasedAll_foldl allFaults (heard .pv u)
    have hreleases : ∀ f, Releases (heard .pv u) f ↔
        (u.faults.get f).state = .latched ∧ ¬ FaultCondition u f := by
      intro f
      rw [faultCondition_iff, Bool.not_eq_true]
      cases f <;> rfl
    generalize ht : allFaults.foldl (fun t f => releaseFault f t) (heard .pv u) = t at hall
    have hany : allFaults.any (latched t) = true ↔ ∃ f, (t.faults.get f).state = .latched := by
      simp only [List.any_eq_true, mem_allFaults, true_and, latched_iff]
    refine ⟨t.faults, if allFaults.any (latched t) = true then .conditionPresent else .ok,
      t.lines.fault,
      fun f => ⟨fun hr => hall.cleared f (mem_allFaults f) ((hreleases f).2 hr),
        fun hr => hall.kept f fun h => hr ((hreleases f).1 h.2)⟩,
      fun hnone => if_neg fun h => ?_, fun hsome => if_pos (hany.2 hsome), ?_, ?_⟩
    · obtain ⟨f, hf⟩ := hany.1 h
      exact hnone f hf
    · rw [hall.line, ← params_refreshed s .pv]
      rfl
    · refine exec_of_request (k := .clearFault) (fun _ => rfl) ha rfl ?_
      rw [clearFaultAnswer, if_pos rfl]
      dsimp only
      rw [ht]
      have hframe : t = heard .pv
          { u with faults := t.faults, lines := { u.lines with fault := t.lines.fault } } :=
        hall.frame
      exact congrArg (fun v => (⟨v, _, 0⟩ : Answer)) hframe

end Sys2Proof.Machine
end

section
/-! PROOFS, spec 11 (R165 to R167, R179), spec 05, spec 06 and spec 07: the receiver's events, the
streaming inputs, POLL and LIFETIME_EXPIRY. The operations on one Link Port are written as one
update each. -/
namespace Sys2Proof.Machine

/-! The receiver (R165 to R167). -/

theorem breakFrame_eq (p : Port) (s : State) : breakFrame p s = s.withPort p { s.port p with
    receiver := .hunt
    sticky := { (s.port p).sticky with linkError := true } } := by
  simp [breakFrame, markLinkError, setReceiver]

/-- In HUNT the byte is discarded and LINK_ERROR marked: the receiver is there already (R166). -/
theorem markLinkError_of_hunt {p : Port} {s : State} (h : (s.port p).receiver = .hunt) :
    markLinkError p s = breakFrame p s := by
  rw [breakFrame_eq, markLinkError, ← h]

/-- What a command does that is taken while RESET is released. -/
theorem exec_of_released {c : Instr} {s u : State} {f : State → State} (hr : s.lines.reset = false)
    (hc : effect c (timingOf s).order = released f) (h : f (opened s) = u) :
    exec c s = .next (closed s u) := by
  refine exec_eq_closed ?_
  rw [hc, released_of_released (by rw [opened_lines_reset, hr]), h]

/-- Settles O24: each event in each of the receiver's states. -/
theorem receiverEventsFollowTheStates : Obligations.ReceiverEventsFollowTheStates := by
  intro s p hr a broken
  have hrec : ((opened s).port p).receiver = (s.port p).receiver := opened_receiver s p
  have hbroken : breakFrame p (opened s) = broken := breakFrame_eq p _
  refine ⟨fun h => ?_, fun h => ?_, fun held h => ?_, exec_of_released hr rfl hbroken,
    exec_of_released hr rfl hbroken⟩
  · rw [h] at hrec
    have hmark : markLinkError p (opened s) = broken := (markLinkError_of_hunt hrec).trans hbroken
    refine ⟨exec_of_released hr rfl ?_, exec_of_released hr rfl ?_, exec_of_released hr rfl ?_,
      fun b => exec_of_released hr rfl ?_⟩
    · rw [if_pos hrec]
      rfl
    · simp only [hrec]
      rfl
    · rw [if_pos hrec, hmark]
    · simp only [receiveByte, hrec]
      exact hmark
  · rw [h] at hrec
    have hnot : ((opened s).port p).receiver ≠ .hunt := by simp [hrec]
    refine ⟨exec_of_released hr rfl (if_neg hnot), exec_of_released hr rfl ?_,
      exec_of_released hr rfl (if_neg hnot), fun b => exec_of_released hr rfl ?_⟩
    · simp only [hrec]
      rfl
    · simp only [receiveByte, hrec]
      rfl
  · rw [h] at hrec
    have hnot : ((opened s).port p).receiver ≠ .hunt := by simp [hrec]
    refine ⟨exec_of_released hr rfl (if_neg hnot), exec_of_released hr rfl (if_neg hnot),
      exec_of_released hr rfl ?_, fun hlen b => exec_of_released hr rfl ?_⟩
    · simp only [hrec]
      exact hbroken
    · have hlt : held.length + 1 < Config.frameBytes := by
        have : Config.frameBytes = 20 := rfl
        omega
      simp only [receiveByte, hrec, hlt, if_true]
      rfl

/-! LIFETIME_EXPIRY (R105). -/

/-- Settles O44. -/
theorem lifetimeExpiryAgesTheTable : Obligations.LifetimeExpiryAgesTheTable := by
  intro s hr
  refine ⟨s.table.filterMap agedEntry, exec_of_released hr rfl ?_, fun x => ?_⟩
  · rw [opened_table]
    rfl
  · simp only [List.mem_filterMap, agedEntry_eq_some]

/-! The records that streaming inputs replace (R69, R70, R81, R86, R87). -/

/-- The mark of a clamp, as one update of the port. -/
theorem markIfClamped_eq (p : Port) (b : Bool) (s : State) : markIfClamped p b s =
    s.withPort p { s.port p with
      sticky := { (s.port p).sticky with clamped := (s.port p).sticky.clamped || b } } := by
  cases b with
  | true => simp [markIfClamped, markClamped]
  | false =>
    simp only [Bool.or_false]
    exact (State.withPort_port_self s p).symm

theorem storeDemand_eq (p : Port) (torque : Half) (b : Byte) (s : State) :
    storeDemand p torque b s =
    { s with
      demand := demandRecord torque b
      queue := if s.demand.propulsion = true ∧ b = 0#8 then ProgramQueue.empty else s.queue
      ports := s.ports.set p { s.port p with
        sticky := { (s.port p).sticky with
          clamped := (s.port p).sticky.clamped || demandClamps torque } } } := by
  have hoff : (s.demand.propulsion && !(demandRecord torque b).propulsion) = true ↔
      s.demand.propulsion = true ∧ b = 0#8 := by simp [demandRecord, byteSet]
  rw [storeDemand, markIfClamped_eq]
  simp only [hoff]
  split <;> rfl

theorem storeReference_eq (p : Port) (speed : Half) (valid : Byte) (s : State) :
    storeReference p speed valid s =
      { s with
        reference := referenceRecord speed valid
        ports := s.ports.set p { s.port p with
          sticky := { (s.port p).sticky with
            clamped := (s.port p).sticky.clamped || referenceClamps speed } } } := by
  rw [storeReference, markIfClamped_eq]
  rfl

theorem storeEnvelope_eq {p : Port} {a : Axle} (h : portAxle p = some a) (d r v : Half) (b : Byte)
    (s : State) : storeEnvelope p d r v b s =
      { s with
        axles := s.axles.set a (envelopeRecord d r v b)
        ports := s.ports.set p { s.port p with
          sticky := { (s.port p).sticky with
            clamped := (s.port p).sticky.clamped || envelopeClamps d r v } } } := by
  rw [storeEnvelope, h]
  dsimp only
  rw [markIfClamped_eq]
  rfl

/-! A frame whose record and fresh event are two blocks' (R88, R83). -/

/-- A good frame on the port produces a fresh event (R92). -/
def FreshComes (s : State) (p : Port) : Prop :=
  s.supervisor.armed = true ∧ (s.supervisor.deadlines.get p).freshness = .stale

theorem freshEventComes_iff (s : State) (p : Port) :
    freshEventComes s p = true ↔ FreshComes s p := by
  simp [freshEventComes, FreshComes]

theorem supervisionAndRecord_whole {p : Port} {o : Order} {s : State}
    (h : o = .whole ∨ ¬ FreshComes s p) (r : Remainder) (record : State → State) :
    supervisionAndRecord p o r record s = record (refreshPort p s) := by
  unfold supervisionAndRecord
  rcases h with rfl | h
  · rw [ite_self]
  · rw [if_neg (mt (freshEventComes_iff s p).1 h)]

theorem supervisionAndRecord_firstNow {p : Port} {s : State} (h : FreshComes s p) (r : Remainder)
    (record : State → State) :
    supervisionAndRecord p .firstNow r record s = leave r (refreshPort p s) := by
  unfold supervisionAndRecord
  rw [if_pos ((freshEventComes_iff s p).2 h)]

theorem supervisionAndRecord_secondNow {p : Port} {s : State} (h : FreshComes s p) (r : Remainder)
    (record : State → State) :
    supervisionAndRecord p .secondNow r record s = leave (.freshEvent p) (record s) := by
  unfold supervisionAndRecord
  rw [if_pos ((freshEventComes_iff s p).2 h)]

/-- What a permitted DEMAND or REFERENCE does, by the order of its two changes (log entries 23,
27). -/
theorem exec_of_record {c : Instr} {p : Port} {tag : Byte} {k : Kind} {r : Remainder}
    {record : State → State} {s : State}
    (hc : ∀ o, effect c o = frameArrives c p (takeRecord p tag k o r record))
    (ha : canArrive s p c = true) (hp : permitted s p k = true) :
    ((timingOf s).order = .whole ∨ ¬ FreshComes (opened s) p →
      exec c s = .next (closed s (record (heard p (refreshPort p (opened s)))))) ∧
    (FreshComes (opened s) p → (timingOf s).order = .firstNow →
      exec c s = .next (closed s (leave r (heard p (refreshPort p (opened s)))))) ∧
    (FreshComes (opened s) p → (timingOf s).order = .secondNow →
      exec c s = .next (closed s (leave (.freshEvent p) (record (heard p (opened s)))))) := by
  have hpermit : permitted (heard p (opened s)) p k = true :=
    (permitted_congr (by simp) p k).trans hp
  have he : effect c (timingOf s).order (opened s) =
      supervisionAndRecord p (timingOf s).order r record (heard p (opened s)) := by
    rw [hc, frameArrives_opened ha, takeRecord, if_pos hpermit]
  refine ⟨fun h => exec_eq_closed ?_, fun h ho => exec_eq_closed ?_, fun h ho => exec_eq_closed ?_⟩
  · rw [he, supervisionAndRecord_whole (s := heard p (opened s)) h, refreshPort_heard]
  · rw [he, ho, supervisionAndRecord_firstNow (s := heard p (opened s)) h, refreshPort_heard]
  · rw [he, ho, supervisionAndRecord_secondNow (s := heard p (opened s)) h]

theorem finish_freshEvent {x : State} (h : x.lines.reset = false) (p : Port) :
    finish (some (.freshEvent p)) x = refreshPort p x := if_neg (by simp [h])

theorem finish_demandRecord {x : State} (h : x.lines.reset = false) (torque : Half) (b : Byte) :
    finish (some (.demandRecord torque b)) x = storeDemand .pv torque b x := if_neg (by simp [h])

theorem finish_referenceRecord {x : State} (h : x.lines.reset = false) (speed : Half) (b : Byte) :
    finish (some (.referenceRecord speed b)) x = storeReference .ps speed b x :=
  if_neg (by simp [h])

theorem finish_computationStart {x : State} (h : x.lines.reset = false) :
    finish (some .computationStart) x = startComputation x := if_neg (by simp [h])

theorem finish_countdown {x : State} (h : x.lines.reset = false) :
    finish (some .countdown) x = countDeadlines x := if_neg (by simp [h])

/-- Settles O32. -/
theorem demandReplacesTheRecord : Obligations.DemandReplacesTheRecord := by
  constructor
  · intro s tag torque b c a v v' taken fresh ha
    have htaken : ∀ x, storeDemand .pv torque b x = taken x := storeDemand_eq .pv torque b
    obtain ⟨hwhole, hfirst, hsecond⟩ := exec_of_record (c := c) (p := .pv) (tag := tag)
      (k := .demand)
      (r := .demandRecord torque b) (record := storeDemand .pv torque b) (fun _ => rfl) ha rfl
    simp only [htaken] at hwhole hsecond
    exact ⟨hwhole, hfirst, hsecond, fun x hx => by rw [finish_demandRecord hx, ← htaken]⟩
  · exact fun x p hx => finish_freshEvent hx p

/-- Settles O33. -/
theorem envelopeAndReferenceReplaceTheirRecords :
    Obligations.EnvelopeAndReferenceReplaceTheirRecords := by
  have hcap : ∀ h : Half, storedLimit h = min h.toNat 8000 := fun h => capNat_eq_min _ _
  constructor
  · intro s p ax tag dm rm sp ready hax c u v v' d' r' ha
    have hp : permitted (heard p (refreshPort p (opened s))) p .envelope = true := by
      rw [permitted_refreshed]
      cases p
      case pf => rfl
      case pr => rfl
      all_goals cases hax
    refine exec_eq_closed ?_
    have he : effect c (timingOf s).order (opened s) = storeEnvelope p dm rm sp ready u := by
      simp only [c, effect]
      rw [frameArrives_opened ha, takeEnvelope, takeStreaming, refreshPort_heard, if_pos hp]
    rw [he, storeEnvelope_eq hax, envelopeRecord, envelopeClamps, hcap, hcap]
    rfl
  · intro s tag sp valid c a v v' taken fresh ha
    have htaken : ∀ x, storeReference .ps sp valid x = taken x := storeReference_eq .ps sp valid
    obtain ⟨hwhole, hfirst, hsecond⟩ := exec_of_record (c := c) (p := .ps) (tag := tag)
      (k := .reference) (r := .referenceRecord sp valid) (record := storeReference .ps sp valid)
      (fun _ => rfl) ha rfl
    simp only [htaken] at hwhole hsecond
    exact ⟨hwhole, hfirst, hsecond, fun x hx => by rw [finish_referenceRecord hx, ← htaken]⟩

end Sys2Proof.Machine
end

section
/-! PROOFS, spec 06 (R90) and spec 01 (R1 to R4): the expiry of a deadline and of a period. Each of
the two is written as one update of the state that it finds. -/
namespace Sys2Proof.Machine

/-! The expiry of a deadline (R90, R140). -/

/-- The entry of a link fault at the expiry of its port's deadline, written out (R140, R144,
R145). -/
theorem enterFault_linkFault (p : Port) (s : State) : enterFault (linkFault p) s =
    { s with
      faults := s.faults.set (linkFault p) { s.faults.get (linkFault p) with
        state := if p = .pv ∨ p = .ps then .active else .latched }
      queue := if p = .ps then s.queue else ProgramQueue.empty
      lines := { s.lines with
        fault := faultLineLevel s.params (s.faults.set (linkFault p)
          { s.faults.get (linkFault p) with
            state := if p = .pv ∨ p = .ps then .active else .latched }) }
      ports := entered (linkFault p) s.ports } := by
  cases p <;> rfl

theorem passDeadline_eq (p : Port) (ahead : Bool) (s : State) : passDeadline p ahead s =
    if (s.faults.get (linkFault p)).state = .active ∨
      (s.faults.get (linkFault p)).state = .latched then
      setDeadline p ⟨.stale, 0, ahead⟩ s
    else enterFault (linkFault p) (setDeadline p ⟨.stale, 0, ahead⟩ s) := by
  rw [passDeadline, staleEvent, setDeadline_faults]
  exact if_congr (FaultState.inForce_iff _) rfl rfl

theorem deadlineDue_iff (s : State) (p : Port) : deadlineDue s p = true ↔
    s.supervisor.armed = true ∧ (s.supervisor.deadlines.get p).freshness = .fresh ∧
      (s.supervisor.deadlines.get p).remaining = 0 := by
  simp [deadlineDue, and_assoc]

/-- A port becomes STALE with its own expiry alone. -/
theorem settleDeadline_freshness (p q : Port) (s : State) :
    ((settleDeadline p s).supervisor.deadlines.get q).freshness =
      if q = p ∧ deadlineDue s q = true then .stale
      else (s.supervisor.deadlines.get q).freshness := by
  unfold settleDeadline
  by_cases hq : q = p
  · subst hq
    by_cases hd : deadlineDue s q = true
    · simp [hd]
    · simp [hd]
  · split <;> simp [hq]

theorem settleDeadlines_freshness (p : Port) (s : State) :
    ((settleDeadlines s).supervisor.deadlines.get p).freshness =
      if deadlineDue s p = true then .stale else (s.supervisor.deadlines.get p).freshness := by
  simp only [settleDeadlines, settleDeadline_freshness, settleDeadline_due]
  cases p <;> simp

/-- The expiry that DEADLINE_EXPIRY takes ahead of its countdown (log entry 8). -/
theorem expireDeadline_eq (p : Port) (s : State) : expireDeadline p s =
    if s.supervisor.armed = true ∧ (s.supervisor.deadlines.get p).freshness = .fresh ∧
        (s.supervisor.deadlines.get p).remaining = 1 ∧
        (s.supervisor.deadlines.get p).countedAhead = false ∧ s.instant.counted = false then
      passDeadline p true s
    else s := by
  unfold expireDeadline
  simp only [Bool.and_eq_true, beq_iff_eq, Bool.not_eq_true', and_assoc]

/-- Settles O45. -/
theorem deadlineExpiryMakesThePortStale : Obligations.DeadlineExpiryMakesThePortStale := by
  intro p f pass
  have hpass : ∀ x ahead, passDeadline p ahead x = pass x ahead := by
    intro x ahead
    rw [passDeadline_eq, enterFault_linkFault]
    rfl
  refine ⟨?_, fun s => ⟨settleDeadlines_due s p, settleDeadlines_freshness p s⟩, ?_⟩
  · intro x d
    rw [← deadlineDue_iff]
    exact ⟨fun h => by rw [settleDeadline, if_pos h, hpass],
      fun h => settleDeadline_none (by simpa using h)⟩
  · intro s hr a d ahead
    refine ⟨fun h => exec_of_released hr rfl ?_, fun h => exec_of_released hr rfl ?_⟩
    · rw [expireDeadline_eq, if_pos h, hpass]
    · rw [expireDeadline_eq, if_neg h]

/-! The expiry of a period (R1 to R4, R90, R123). -/

theorem startProgram_eq (s : State) : startProgram s = s.withQueue
    (if s.queue.state = .idle ∧ (∃ g ∈ s.queue.segments, g.last = true) ∧
        s.mode.state = .run ∧ s.demand.propulsion = true ∧
          (s.faults.get .linkV).state ≠ .active then
      ⟨s.queue.segments, .running, 0, none⟩ else s.queue) := by
  have hqueue : startProgram s = s.withQueue (startProgram s).queue := by
    unfold startProgram
    split <;> rfl
  rw [hqueue, startProgram_queue]
  congr 1
  refine if_congr (and_congr_right fun _ => and_congr headComplete_iff ?_) rfl rfl
  simp [startConditions, and_assoc]

theorem countedDeadline_eq (d : Deadline) : countedDeadline d =
    if d.countedAhead = true then { d with countedAhead := false }
    else if d.freshness = .fresh then { d with remaining := d.remaining - 1 } else d := by
  unfold countedDeadline
  cases d.freshness <;> rfl

theorem countDeadlines_eq (s : State) : countDeadlines s =
    { s with
      instant := { s.instant with counted := true }
      supervisor := if s.supervisor.armed = true then
          { s.supervisor with deadlines := s.supervisor.deadlines.map countedDeadline }
        else s.supervisor } := by
  unfold countDeadlines
  dsimp only
  split <;> rfl

theorem completeInFlight_of_none {s : State} (h : s.engine.inFlight = none) :
    completeInFlight s = s := by
  rw [completeInFlight, h]

/-- Settles O46: the start and the countdown written out, in each order. -/
theorem periodExpiryStartsAComputation : Obligations.PeriodExpiryStartsAComputation := by
  unfold Obligations.PeriodExpiryStartsAComputation
  intro start counted count
  have hstart : ∀ y, startComputation y = start y := by
    intro y
    rw [startComputation, startProgram_eq]
    rfl
  have hcount : ∀ y, countDeadlines y = count y := by
    intro y
    have hc : countedDeadline = counted := funext countedDeadline_eq
    rw [countDeadlines_eq, hc]
    rfl
  refine ⟨?_, fun x hx => ⟨(finish_computationStart hx).trans (hstart x),
    (finish_countdown hx).trans (hcount x)⟩⟩
  intro s hr a b i
  have hi : beginInterval b = i := by
    have hparams : b.params = s.params := by simp [b, a]
    rw [beginInterval, State.param, hparams]
    rfl
  refine ⟨completeInFlight_of_none, fun ho => exec_of_released hr rfl ?_,
    fun ho => exec_of_released hr rfl ?_, fun ho => exec_of_released hr rfl ?_⟩
  · rw [ho, takePeriodExpiry, hi, hstart, hcount]
  · rw [ho, takePeriodExpiry, hi, hstart]
  · rw [ho, takePeriodExpiry, hi, hcount]

end Sys2Proof.Machine
end

section
/-! PROOFS, spec 11 (R172 to R181): the frames that the part sends. First what each byte of a sealed
frame is and the bits of a set, then the rank of the slots on one port. -/
namespace Sys2Proof.Machine

/-! The bytes of a frame (R181). -/

/-- The bit of a byte that is made of bits. -/
theorem getLsbD_bitsByte (bs : List Bool) {i : Nat} (h : i < 8) :
    (bitsByte bs).getLsbD i = bs.getD i false := by
  induction bs generalizing i with
  | nil => simp [bitsByte]
  | cons b bs ih =>
    have hbit : ∀ j, (if b then 1#8 else 0#8 : Byte).getLsbD j = (decide (j = 0) && b) := by
      intro j
      cases b
      · simp
      · simp [BitVec.getLsbD_one]
    rw [bitsByte, BitVec.getLsbD_or, BitVec.getLsbD_shiftLeft, hbit]
    cases i with
    | zero => simp
    | succ i =>
      have hi : i < 8 := by omega
      simp [h, ih hi]

theorem toNat_bitsByte_lt (bs : List Bool) : (bitsByte bs).toNat < 2 ^ bs.length := by
  induction bs with
  | nil => simp [bitsByte]
  | cons b bs ih =>
    rw [bitsByte, BitVec.toNat_or, List.length_cons]
    refine Nat.or_lt_two_pow ?_ ?_
    · rw [BitVec.toNat_shiftLeft, Nat.shiftLeft_eq]
      have := Nat.mod_le ((bitsByte bs).toNat * 2 ^ 1) (2 ^ 8)
      rw [pow_succ]
      omega
    · have hle : (if b then 1#8 else 0#8 : Byte).toNat ≤ 1 := by cases b <;> decide
      have hpow : 2 ≤ 2 ^ (bs.length + 1) := by
        rw [pow_succ]
        have := Nat.one_le_two_pow (n := bs.length)
        omega
      omega

theorem getLsbD_faultByte (x : PerFault Bool) (f : FaultId) :
    (faultByte x).getLsbD f.id = x.get f := by
  rw [faultByte, getLsbD_bitsByte _ (by cases f <;> decide)]
  cases f <;> rfl

/-- A field of two bytes, low byte first, is read back whole. -/
theorem halfAt_of_bytes {frame : List Byte} {n : Nat} {h : Half} (hlo : byteAt frame n = lowByte h)
    (hhi : byteAt frame (n + 1) = highByte h) : halfAt frame n = h := by
  rw [halfAt, hlo, hhi, highByte_append_lowByte]

/-- Settles O30: each byte is read off the frame as it is composed. -/
theorem statusFrameCarriesTheState : Obligations.StatusFrameCarriesTheState := by
  refine ⟨?_, ?_, ?_, ?_, rfl, rfl⟩
  · intro s p b
    have h3 : byteAt b 3 = faultByte (s.faults.map fun x => x.state.inForce) := rfl
    have h4 : byteAt b 4 = faultByte (s.faults.map fun x => x.state == .latched) := rfl
    have h5 : byteAt b 5 = faultByte (s.port p).sticky.faults := rfl
    have h6 : byteAt b 6 = bitsByte [(s.port p).sticky.linkError, (s.port p).sticky.overrun,
      (s.port p).sticky.clamped] := rfl
    have h9 : byteAt b 9 = BitVec.ofNat 8 s.queue.runningId := rfl
    refine ⟨rfl, rfl, rfl, fun f => ⟨?_, ?_, ?_⟩, ?_, ?_, ?_, ?_, rfl, rfl, fun hq => ?_,
      fun hq g hg => ?_,
      rfl, rfl, halfAt_of_bytes rfl rfl, halfAt_of_bytes rfl rfl, halfAt_of_bytes rfl rfl,
      frameWf_status s p⟩
    · rw [h3, getLsbD_faultByte, PerFault.get_map, FaultState.inForce_iff]
    · rw [h4, getLsbD_faultByte, PerFault.get_map, beq_iff_eq]
    · rw [h5, getLsbD_faultByte]
    · rw [h6, getLsbD_bitsByte _ (by decide)]
      rfl
    · rw [h6, getLsbD_bitsByte _ (by decide)]
      rfl
    · rw [h6, getLsbD_bitsByte _ (by decide)]
      rfl
    · rw [h6]
      exact toNat_bitsByte_lt _
    · rw [h9, ProgramQueue.runningId, hq]
    · obtain ⟨gs, hgs⟩ := List.head?_eq_some_iff.1 hg
      rw [h9, ProgramQueue.runningId, hq, hgs]
  · intro r b
    refine ⟨rfl, rfl, rfl, rfl, halfAt_of_bytes rfl rfl, fun i h1 h2 => ?_, frameWf_reply r⟩
    interval_cases i <;> rfl
  · intro c b
    refine ⟨rfl, rfl, halfAt_of_bytes rfl rfl, halfAt_of_bytes rfl rfl, rfl, rfl, rfl, rfl,
      halfAt_of_bytes rfl rfl, fun i h1 h2 => ?_, frameWf_axleCmd c⟩
    interval_cases i <;> rfl
  · intro x a b
    have ha : ∀ i, i < 8 → a.getLsbD i = [x.satF, x.satR, x.redist, x.shortfall, x.rateF, x.rateR,
      x.conflict, x.totalCapped].getD i false := fun i hi => getLsbD_bitsByte _ hi
    have hb : ∀ i, i < 8 → b.getLsbD i = [x.held, x.idle, x.program, x.fallbackRef].getD i false :=
      fun i hi => getLsbD_bitsByte _ hi
    exact ⟨ha 0 (by decide), ha 1 (by decide), ha 2 (by decide), ha 3 (by decide), ha 4 (by decide),
      ha 5 (by decide), ha 6 (by decide), ha 7 (by decide), hb 0 (by decide), hb 1 (by decide),
      hb 2 (by decide), hb 3 (by decide), toNat_bitsByte_lt _⟩

/-! The slots by their rank (R173 to R177). -/

theorem arbitrated_of_sending {s : State} {p : Port} (h : (s.port p).sending ≠ none) :
    arbitrated s p = s.port p := by
  obtain ⟨t, ht⟩ := Option.ne_none_iff_exists'.1 h
  simp only [arbitrated, ht]

theorem arbitrated_of_command {s : State} {p : Port} (h : (s.port p).sending = none) {c : AxleCmd}
    (hc : waitingCommand s p = some c) :
    arbitrated s p = { s.port p with sending := some ⟨.command, c.bytes⟩ } := by
  simp only [arbitrated, h, hc]

theorem arbitrated_of_reply {s : State} {p : Port} (h : (s.port p).sending = none)
    (hc : waitingCommand s p = none) {r : Reply} (hr : (s.port p).reply = some r) :
    arbitrated s p = { s.port p with sending := some ⟨.reply, r.bytes⟩ } := by
  simp only [arbitrated, h, hc, hr]

theorem arbitrated_of_status {s : State} {p : Port} (h : (s.port p).sending = none)
    (hc : waitingCommand s p = none) (hr : (s.port p).reply = none)
    (hs : (s.port p).statusWaiting = true) :
    arbitrated s p = { s.port p with
      statusWaiting := false
      sending := some ⟨.status, statusBytes s p⟩
      sticky := StickySet.empty } := by
  simp only [arbitrated, h, hc, hr, hs]

theorem arbitrated_of_nothing {s : State} {p : Port} (hc : waitingCommand s p = none)
    (hr : (s.port p).reply = none) (hs : (s.port p).statusWaiting = false) :
    arbitrated s p = s.port p := by
  cases h : (s.port p).sending with
  | some t => exact arbitrated_of_sending (by simp [h])
  | none => simp only [arbitrated, h, hc, hr, hs]

/-- Arbitration on one port: its Link Port, and the command slot emptied where its frame begins. -/
theorem startTransmitter_of_noCommand {s : State} {p : Port} (h : waitingCommand s p = none) :
    startTransmitter p s = s.withPort p (arbitrated s p) := by
  apply State.ext_fields <;> try simp
  · intro a
    rw [startTransmitter_command]
    split
    · next ha =>
      rw [waitingCommand, ha.1] at h
      exact h.symm
    · rfl
  · intro q
    rw [startTransmitter_port]

theorem startTransmitter_of_command {s : State} {p : Port} (h : (s.port p).sending = none)
    {c : AxleCmd} (hc : waitingCommand s p = some c) :
    startTransmitter p s =
      (emptyCommandSlot p s).withPort p { s.port p with sending := some ⟨.command, c.bytes⟩ } := by
  rw [startTransmitter, h, hc]

/-- The line of a port whose frame ends. -/
theorem endTransmission_eq {s : State} {p : Port} {x : Transmission}
    (h : (s.port p).sending = some x) :
    endTransmission p s = s.withPort p { s.port p with
      sending := none
      reply := if x.slot = .reply then none else (s.port p).reply } := by
  rw [endTransmission, h]

theorem emptyCommandSlot_withPort (p q : Port) (l : LinkPort) (s : State) :
    emptyCommandSlot p (s.withPort q l) = (emptyCommandSlot p s).withPort q l := by
  cases p <;> rfl

theorem waitingCommand_withPort (p q : Port) (l : LinkPort) (s : State) :
    waitingCommand (s.withPort q l) p = waitingCommand s p := rfl

/-- Settles O31: the end of a frame, then the four ranks; and each port on its own at an instant's
end. -/
theorem transmitCompletionChoosesByRank : Obligations.TransmitCompletionChoosesByRank := by
  constructor
  · intro s p hr a
    refine ⟨fun hidle => exec_of_released hr rfl (if_neg ?_), ?_⟩
    · rw [hidle]
      exact Bool.false_ne_true
    intro x hx r
    have hexec : ∀ v,
      startTransmitter p (a.withPort p { a.port p with sending := none, reply := r }) = v →
        exec (.transmitCompletion p) s = .next (closed s v) := by
      intro v hv
      refine exec_of_released hr rfl ?_
      have hsome : ((opened s).port p).sending.isSome = true := Option.isSome_iff_exists.2 ⟨x, hx⟩
      rw [if_pos hsome, endTransmission_eq hx]
      exact hv
    refine ⟨fun c hc => hexec _ ?_, fun hc y hy => hexec _ ?_, fun hc hy hw => hexec _ ?_,
      fun hc hy hw => hexec _ ?_⟩
    · rw [startTransmitter_of_command (by simp) ((waitingCommand_withPort _ _ _ _).trans hc),
        emptyCommandSlot_withPort, State.withPort_withPort]
      simp
    all_goals
      rw [startTransmitter_of_noCommand ((waitingCommand_withPort _ _ _ _).trans hc)]
    · rw [arbitrated_of_reply (by simp) ((waitingCommand_withPort _ _ _ _).trans hc)
        (by simpa using hy), State.withPort_withPort]
      simp [hy]
    · have hbytes : statusBytes (a.withPort p { a.port p with sending := none, reply := r }) p =
          statusBytes a p := statusBytes_congr rfl rfl rfl rfl rfl (by simp)
      rw [arbitrated_of_status (by simp) ((waitingCommand_withPort _ _ _ _).trans hc)
        (by simpa using hy) (by simpa using hw), State.withPort_withPort, hbytes]
      simp [hy]
    · rw [arbitrated_of_nothing ((waitingCommand_withPort _ _ _ _).trans hc)
        (by simpa using hy) (by simpa using hw), State.withPort_withPort]
      simp [hy]
  · intro s
    refine ⟨startTransmitters s, rfl, ?_, fun p => ?_,
      fun p a ha => startTransmitters_command s p a ha⟩
    · apply State.ext_fields <;> simp [State.port]
    · rw [startTransmitters_port]
      refine ⟨?_, fun hidle => ⟨fun c hc => arbitrated_of_command hidle hc,
        fun hc r hr => arbitrated_of_reply hidle hc hr,
        fun hc hr hw => arbitrated_of_status hidle hc hr hw⟩⟩
      rintro (hbusy | ⟨hc, hr, hw⟩)
      · exact arbitrated_of_sending hbusy
      · exact arbitrated_of_nothing hc hr hw

end Sys2Proof.Machine
end

section
/-! PROOFS, spec 11 (R176, R179) and spec 01 (R6 to R19): POLL at an instant of its own, and
COMPLETION. First a command that no other joins, then the marks that the four observations leave on
a port. -/
namespace Sys2Proof.Machine

/-! A command at an instant of its own (log entries 10, 22). -/

theorem joinsInstant_of_alone {s : State} (h : Alone s) : joinsInstant s = false := by
  unfold Alone at h
  unfold joinsInstant timingOf
  cases hs : s.instant.timing with
  | nil => rfl
  | cons x xs =>
    rw [hs] at h
    exact h x List.mem_cons_self

/-- The command that follows does not join the instant either. -/
theorem joinsInstant_of_alone_tail {s u : State} (h : Alone s)
    (hu : u.instant.timing = s.instant.timing.tail) : joinsInstant u = false := by
  unfold Alone at h
  unfold joinsInstant timingOf
  rw [hu]
  cases hs : s.instant.timing with
  | nil => rfl
  | cons x xs =>
    cases xs with
    | nil => rfl
    | cons y ys =>
      rw [hs] at h
      exact h y (List.mem_cons_of_mem _ List.mem_cons_self)

/-- An effect that leaves the instant and brings no deadline to its end is followed by the instant's
transmissions alone. -/
theorem closed_of_alone {s u : State} (hs : Settled s) (ha : Alone s)
    (hi : u.instant = (opened s).instant) (hd : ∀ q, deadlineDue u q = false) :
    closed s u = startTransmitters u := by
  have hopened : (opened s).instant = { s.instant with timing := s.instant.timing.tail } := by
    rw [opened_settled hs]
    rfl
  rw [hopened] at hi
  refine closed_alone (joinsInstant_of_alone ha)
    (joinsInstant_of_alone_tail ha ?_) ?_ ?_ hd <;> rw [hi]
  exacts [hs.1, hs.2.1]

theorem opened_port_of_settled {s : State} (h : Settled s) (p : Port) :
    (opened s).port p = s.port p := by
  rw [opened_settled h]
  rfl

theorem deadlineDue_opened_of_settled {s : State} (h : Settled s) (p : Port) :
    deadlineDue (opened s) p = false := by
  rw [opened_settled h]
  exact h.2.2.1 p

/-- A refreshed deadline is not due: a window is never 0 (R161). -/
theorem deadlineDue_refreshPort {p q : Port} {s : State} (hw : window s p ≠ 0)
    (h : deadlineDue s q = false) : deadlineDue (refreshPort p s) q = false := by
  unfold deadlineDue at h ⊢
  rw [refreshPort_supervisor]
  split
  · by_cases hq : q = p
    · simp [hq, hw]
    · simpa [hq] using h
  · exact h

/-! One port's transmission at the end of an instant. -/

theorem command_of_waitingCommand_none {s : State} {p : Port} {a : Axle} (hp : portAxle p = some a)
    (h : waitingCommand s p = none) : s.commands.get a = none := by
  rwa [waitingCommand, hp] at h

/-- Where only one port has a frame waiting, its status, that frame alone begins. -/
theorem startTransmitters_of_status {s : State} {p : Port}
    (hother : ∀ q, q ≠ p → (s.port q).sending = none →
      waitingCommand s q = none ∧ (s.port q).reply = none ∧ (s.port q).statusWaiting = false)
    (hidle : (s.port p).sending = none) (hc : waitingCommand s p = none)
    (hr : (s.port p).reply = none) (hw : (s.port p).statusWaiting = true) :
    startTransmitters s = s.withPort p { s.port p with
      statusWaiting := false
      sending := some ⟨.status, statusBytes s p⟩
      sticky := StickySet.empty } := by
  apply State.ext_fields <;> try simp
  · intro a
    obtain ⟨q, hq⟩ : ∃ q, portAxle q = some a := by
      cases a
      exacts [⟨.pf, rfl⟩, ⟨.pr, rfl⟩]
    rw [startTransmitters_command s q a hq]
    split
    · next hs =>
      by_cases hqp : q = p
      · subst hqp
        exact (command_of_waitingCommand_none hq hc).symm
      · exact (command_of_waitingCommand_none hq (hother q hqp hs).1).symm
    · rfl
  · intro q
    rw [startTransmitters_port]
    split
    · next hqp =>
      rw [hqp, arbitrated_of_status hidle hc hr hw]
    · next hqp =>
      cases hs : (s.port q).sending with
      | some t => exact arbitrated_of_sending (by simp [hs])
      | none =>
        obtain ⟨h1, h2, h3⟩ := hother q hqp hs
        exact arbitrated_of_nothing h1 h2 h3

/-- Settles O29. -/
theorem pollTriggersStatusOnItsPort : Obligations.PollTriggersStatusOnItsPort := by
  intro s p tag hcan a u
  have hport : (refreshPort p (opened s)).port p = (opened s).port p := refreshPort_port _ _ _
  have he : effect (.poll p tag) (timingOf s).order (opened s) = u := by
    have hp : permitted (heard p (refreshPort p (opened s))) p .poll = true := rfl
    simp only [effect]
    rw [frameArrives_opened hcan, takePoll, takeStreaming, refreshPort_heard, if_pos hp]
    simp [triggerStatus, heard, hport, u, a]
  have hexec : exec (.poll p tag) s = .next (closed s u) := exec_eq_closed he
  refine ⟨hexec, fun hset halone hcounts => ?_⟩
  have hu : ∀ q, u.port q =
      if q = p then { a.port p with receiver := .hunt, statusWaiting := true } else s.port q := by
    intro q
    simp only [u, State.port_withPort, refreshPort_port]
    split
    · rfl
    · exact opened_port_of_settled hset q
  have hself : u.port p = { a.port p with receiver := .hunt, statusWaiting := true } := by
    rw [hu, if_pos rfl]
  have hcommand : ∀ q, waitingCommand u q = waitingCommand s q := by
    intro q
    simp only [waitingCommand, u, State.withPort_commands, refreshPort_commands, a,
      opened_settled hset,
      State.withInstant_commands]
  have hother : ∀ q, q ≠ p → (u.port q).sending = none → waitingCommand u q = none ∧
      (u.port q).reply = none ∧ (u.port q).statusWaiting = false := by
    intro q hq
    rw [hu, if_neg hq, hcommand]
    exact hset.2.2.2 q
  have hdue : ∀ q, deadlineDue u q = false := by
    intro q
    have hw : window a p ≠ 0 := by
      have := (window_mem (s := a) (by simpa [a, ParamsWf] using hcounts.1) p).1
      omega
    exact deadlineDue_refreshPort hw (deadlineDue_opened_of_settled hset q)
  have hclosed : closed s u = startTransmitters u :=
    closed_of_alone hset halone (by simp [u, a]) hdue
  rw [hexec, hclosed]
  have hsending : (u.port p).sending = (s.port p).sending := by
    rw [hself, ← opened_port_of_settled hset p]
  refine ⟨fun hbusy => congrArg _ (startTransmitters_quiet fun q hq => ?_),
    fun hidle => congrArg _ ?_⟩
  · refine hother q (fun hqp => hbusy ?_) hq
    rw [hqp, hsending] at hq
    exact hq
  · obtain ⟨h1, h2, -⟩ := hset.2.2.2 p hidle
    rw [startTransmitters_of_status hother (hsending.trans hidle) ((hcommand p).trans h1)
      (by rw [hself]; exact (congrArg LinkPort.reply (opened_port_of_settled hset p)).trans h2)
      (by rw [hself]), hself]

/-! The marks of a fault's entry on a port (R145). -/

/-- A fault enters: it is in force after, and was not before (R135). -/
def entersForce (s t : State) (f : FaultId) : Bool :=
  !(s.faults.get f).state.inForce && (t.faults.get f).state.inForce

/-- A port whose fault's entry marks it, where it enters. -/
def marked (f : FaultId) (enters : Bool) (l : LinkPort) : LinkPort :=
  { l with
    statusWaiting := l.statusWaiting || enters
    sticky := { l.sticky with faults := l.sticky.faults.set f (l.sticky.faults.get f || enters) } }

theorem PerFault.set_get_self {α : Type} (x : PerFault α) (f : FaultId) :
    x.set f (x.get f) = x := by
  cases f <;> rfl

theorem marked_false (f : FaultId) (l : LinkPort) : marked f false l = l := by
  simp only [marked, Bool.or_false, PerFault.set_get_self]

theorem enterFault_port (f : FaultId) (s : State) (p : Port) :
    (enterFault f s).port p = marked f true (s.port p) := by
  have h : ∀ x : State, (reevaluateLine (triggerStatusAll (markFaultAll f x))).port p =
      marked f true (x.port p) := by
    intro x
    have hline : (reevaluateLine (triggerStatusAll (markFaultAll f x))).port p =
        (triggerStatusAll (markFaultAll f x)).port p := rfl
    rw [hline, triggerStatusAll, State.port_mapPorts, markFaultAll, State.port_mapPorts]
    simp only [marked, Bool.or_true]
  unfold enterFault
  dsimp only
  rw [h]
  split <;> rfl

/-- An observation marks the port with its fault exactly where the fault enters. -/
theorem observe_port (f : FaultId) (b : Bool) (s : State) (p : Port) :
    (observe f b s).port p = marked f (entersForce s (observe f b s) f) (s.port p) := by
  have hqualify : ∀ n, (s.faults.get f).state.inForce = false → (qualify f n s).port p =
      marked f (entersForce s (qualify f n s) f) (s.port p) := by
    intro n hnot
    have henters : entersForce s (qualify f n s) f = decide (qualification s f ≤ n) := by
      rw [entersForce, hnot, qualify_get, if_pos rfl]
      by_cases hn : qualification s f ≤ n
      · cases f <;> simp [hn, inForceState, FaultState.inForce]
      · simp [hn, FaultState.inForce]
    rw [henters]
    unfold qualify
    dsimp only
    split
    · next hn =>
      rw [enterFault_port, decide_eq_true hn]
      rfl
    · next hn =>
      rw [decide_eq_false hn, marked_false]
      rfl
  have hsame : ∀ t : State, t.port p = s.port p → entersForce s t f = false →
      t.port p = marked f (entersForce s t f) (s.port p) := by
    intro t ht hf
    rw [hf, marked_false, ht]
  unfold observe
  cases hs : (s.faults.get f).state <;> cases b <;> simp only [hs]
  case clear.true => exact hqualify _ (by rw [hs]; rfl)
  case pending.true => exact hqualify _ (by rw [hs]; rfl)
  all_goals refine hsame _ rfl ?_
  all_goals simp [entersForce, setFault, hs, FaultState.inForce]

end Sys2Proof.Machine
end

section
/-! PROOFS, spec 01 (R6 to R19): COMPLETION. What it publishes, what the four observations leave of
the faults and on the ports, and the frames that begin at its instant's end. -/
namespace Sys2Proof.Machine

/-! The ports after a completion (R19, R145). -/

/-- The four observations mark a port each with its own fault. -/
theorem handObservations_port (x : Inputs) (s : State) (p : Port) :
    (handObservations x s).port p =
      marked .slipR (entersForce s (handObservations x s) .slipR)
        (marked .slipF (entersForce s (handObservations x s) .slipF)
          (marked .stallR (entersForce s (handObservations x s) .stallR)
            (marked .stallF (entersForce s (handObservations x s) .stallF) (s.port p)))) := by
  simp only [handObservations, observe_port, entersForce, observe_get, reduceCtorEq, if_true,
    if_false]

theorem entersForce_congr {s t s' t' : State} (hs : s'.faults = s.faults)
    (ht : t'.faults = t.faults) :
    entersForce s' t' = entersForce s t := by
  funext f
  rw [entersForce, entersForce, hs, ht]

theorem cadence_port (x : Inputs) (s : State) (p : Port) : (cadence x s).port p = { s.port p with
    statusWaiting := (s.port p).statusWaiting ||
      decide (s.engine.periodNumber.toNat % x.params.read Param.statusDiv = 0) } := by
  unfold cadence
  split
  · next h =>
    rw [triggerStatusAll, State.port_mapPorts, decide_eq_true h, Bool.or_true]
  · next h => rw [decide_eq_false h, Bool.or_false]

/-- A port after a completion: the marks of the faults that enter, and the cadence's trigger. -/
theorem complete_port (x : Inputs) (s : State) (p : Port) :
    (complete x s).port p =
      let e := entersForce s (complete x s)
      let l := marked .slipR (e .slipR) (marked .slipF (e .slipF) (marked .stallR (e .stallR)
        (marked .stallF (e .stallF) (s.port p))))
      { l with statusWaiting := l.statusWaiting ||
          decide ((complete x s).engine.periodNumber.toNat % x.params.read Param.statusDiv = 0) } :=
            by
  have hperiod : ∀ t : State, (cadence x t).engine = t.engine := fun t => cadence_engine x t
  have hobserved : ∀ y : State, y.ports = s.ports → y.faults = s.faults →
      (complete x s).faults = (handObservations x y).faults →
      (handObservations x y).port p =
        marked .slipR (entersForce s (complete x s) .slipR)
          (marked .slipF (entersForce s (complete x s) .slipF)
            (marked .stallR (entersForce s (complete x s) .stallR)
              (marked .stallF (entersForce s (complete x s) .stallF) (s.port p)))) := by
    intro y hports hfaults hcomplete
    rw [handObservations_port, entersForce_congr hfaults hcomplete.symm, State.port, State.port,
      hports]
  have hfaults : (complete x s).faults = (handObservations x
      (placeCommands (computeSplit x).available (publish (computeSplit x) s))).faults := by
    simp only [complete, cadence_faults, handNotice_faults]
  have hengine : (complete x s).engine = (handNotice x (computeSplit x) (handObservations x
      (placeCommands (computeSplit x).available (publish (computeSplit x) s)))).engine := hperiod _
  have hnotice : (handNotice x (computeSplit x) (handObservations x (placeCommands
      (computeSplit x).available (publish (computeSplit x) s)))).port p = (handObservations x
      (placeCommands (computeSplit x).available (publish (computeSplit x) s))).port p := by
    rw [State.port, handNotice_ports, State.port]
  have hport := hobserved (placeCommands (computeSplit x).available (publish (computeSplit x) s))
    (by simp) (by simp) hfaults
  rw [hengine]
  dsimp only
  rw [← hport, ← hnotice]
  exact cadence_port x _ p

/-- The Link Port that keeps everything but its status slot and its sticky faults. -/
theorem LinkPort.eq_of_kept {l l' : LinkPort} {w : Bool} (hw : l'.statusWaiting = w)
    (hreceiver : l'.receiver = l.receiver) (hreply : l'.reply = l.reply)
    (hsending : l'.sending = l.sending) (herror : l'.sticky.linkError = l.sticky.linkError)
    (hoverrun : l'.sticky.overrun = l.sticky.overrun)
      (hclamped : l'.sticky.clamped = l.sticky.clamped) :
    l' = { l with statusWaiting := w, sticky := { l.sticky with faults := l'.sticky.faults } } := by
  dsimp only
  rw [← hw, ← hreceiver, ← hreply, ← hsending, ← herror, ← hoverrun, ← hclamped]

/-- A link fault does not enter at a completion. -/
theorem entersForce_complete_linkFault (x : Inputs) (s : State) (p : Port) :
    entersForce s (complete x s) (linkFault p) = false := by
  have hget : (complete x s).faults.get (linkFault p) = s.faults.get (linkFault p) := by
    rcases complete_get x (linkFault p) s with ⟨-, h⟩ | ⟨h, -⟩
    · exact h
    · exact absurd rfl (h p)
  rw [entersForce, hget]
  exact Bool.not_and_self _

theorem complete_statusWaiting (x : Inputs) (s : State) (p : Port) :
    ((complete x s).port p).statusWaiting = ((s.port p).statusWaiting ||
      (decide ((complete x s).engine.periodNumber.toNat % x.params.read Param.statusDiv = 0) ||
        allFaults.any (entersForce s (complete x s)))) := by
  have hV := entersForce_complete_linkFault x s .pv
  have hF := entersForce_complete_linkFault x s .pf
  have hR := entersForce_complete_linkFault x s .pr
  have hS := entersForce_complete_linkFault x s .ps
  simp only [linkFault] at hV hF hR hS
  rw [complete_port]
  simp only [marked, allFaults, List.any_cons, List.any_nil, hV, hF, hR, hS, Bool.or_false,
    Bool.false_or]
  ac_rfl

theorem complete_stickyFaults (x : Inputs) (s : State) (p : Port) (f : FaultId) :
    ((complete x s).port p).sticky.faults.get f =
      ((s.port p).sticky.faults.get f || entersForce s (complete x s) f) := by
  have hlink : ∀ q, linkFault q = f → entersForce s (complete x s) f = false := by
    rintro q rfl
    exact entersForce_complete_linkFault x s q
  rw [complete_port]
  simp only [marked, PerFault.get_set]
  cases f
  case linkV => simp [hlink .pv rfl]
  case linkF => simp [hlink .pf rfl]
  case linkR => simp [hlink .pr rfl]
  case linkS => simp [hlink .ps rfl]
  all_goals simp

/-! The frames of a completion (R14, R15, R175 to R177). -/

theorem complete_command (x : Inputs) (s : State) (a : Axle) : (complete x s).commands.get a = some
    { torque := (complete x s).engine.record.sent.get a
      periodNumber := (complete x s).engine.periodNumber
      mode := s.mode.state
      available := available x a
      flags := (complete x s).engine.record.flags
      limit := (complete x s).engine.record.limit.get a } := by
  have hperiod : (complete x s).engine.periodNumber =
    (complete x s).engine.record.periodNumber := by
    rw [complete_engine]
    rfl
  rw [hperiod, complete_record, complete_commands, ← computeSplit_available]
  cases a <;> rfl

theorem deadlineDue_congr {s t : State} (h : t.supervisor = s.supervisor) (p : Port) :
    deadlineDue t p = deadlineDue s p := by
  rw [deadlineDue, deadlineDue, h]

/-- Settles O48: the frames placed, the marks of what enters, and the transmissions at a settled
instant. -/
theorem completionSendsAxleCommands : Obligations.CompletionSendsAxleCommands := by
  intro s x hr hx a t r enters command trigger
  have ht : t = complete x a := completeInFlight_of_some hx
  have hmode : a.mode = s.mode := by simp [a]
  have hcommand : ∀ ax, t.commands.get ax = some (command ax) := by
    intro ax
    rw [ht, complete_command, ← ht, hmode]
  have henters : entersForce a t = enters := rfl
  have hwaiting : ∀ p, (t.port p).statusWaiting = ((a.port p).statusWaiting || trigger) := by
    intro p
    rw [ht, complete_statusWaiting, ← ht, henters]
  have hexec : exec .completion s = .next (closed s t) := exec_of_released hr rfl rfl
  have hport : ∀ p, t.port p = { a.port p with
      statusWaiting := (a.port p).statusWaiting || trigger
      sticky := { (a.port p).sticky with faults := (t.port p).sticky.faults } } := by
    intro p
    refine LinkPort.eq_of_kept (hwaiting p) ?_ ?_ ?_ ?_ ?_ ?_ <;> rw [ht, complete_port] <;> rfl
  refine ⟨hexec, PerAxle.ext_get fun ax => ?_, fun p => ⟨hport p, fun f => ?_⟩,
    fun hset halone => ?_⟩
  · rw [hcommand]
    cases ax <;> rfl
  · rw [ht, complete_stickyFaults, ← ht, henters]
  have hclosed : closed s t = startTransmitters t := by
    refine closed_of_alone hset halone (by rw [ht]; simp [a]) fun q => ?_
    rw [deadlineDue_congr (s := a) (by rw [ht]; simp)]
    exact deadlineDue_opened_of_settled hset q
  have hkept : ∀ p, a.port p = s.port p := opened_port_of_settled hset
  have hsending : ∀ p, (t.port p).sending = (s.port p).sending := by
    intro p
    rw [hport, hkept]
  refine ⟨startTransmitters t, by rw [hexec, hclosed], rfl, fun p ax hp hidle => ?_,
    fun p hp hidle htrigger => ?_⟩
  · have hidle' : (t.port p).sending = none := (hsending p).trans hidle
    have hwait : waitingCommand t p = some (command ax) := by
      rw [waitingCommand, hp]
      exact hcommand ax
    rw [startTransmitters_port, arbitrated_of_command hidle' hwait,
      startTransmitters_command t p ax hp,
      if_pos hidle']
    exact ⟨rfl, rfl⟩
  · have hwait : waitingCommand t p = none := by rw [waitingCommand, hp]
    have hreply : (t.port p).reply = none := by
      rw [hport, hkept]
      exact (hset.2.2.2 p hidle).2.1
    rw [startTransmitters_port]
    exact arbitrated_of_status ((hsending p).trans hidle) hwait hreply
      (by rw [hwaiting, htrigger, Bool.or_true])

/-! The publication (R6 to R12, R16, R17, R136 to R138). -/

theorem bne_run (m : Mode) : (m != .run) = decide (m ≠ .run) := by cases m <;> rfl

/-- The whole engine after a completion (R6, R8, R9, R10, R12, R60). -/
theorem complete_engine_eq (x : Inputs) (s : State) : (complete x s).engine =
    let r := computeSplit x
    let sent : PerAxle Int := if s.mode.state = .run then r.command else ⟨0, 0⟩
    let written : Int → Int := fun v =>
      if s.engine.startMark = true then 0 else min v (s.params.read Param.corrMax : Int)
    let corr : PerAxle Int := ⟨written r.corr.front, written r.corr.rear⟩
    { s.engine with
      inFlight := none
      startMark := false
      periodNumber := s.engine.periodNumber + 1#16
      corr := corr
      prev := sent
      holdCount := r.holdCount
      heldValue := r.heldValue
      record :=
        { periodNumber := s.engine.periodNumber + 1#16
          dUsed := r.dUsed
          totalCap := r.totalCap
          source := r.source
          sBase := r.sBase
          corr := corr
          sFinal := r.sFinal
          limit := r.limit
          request := r.request
          sent := sent
          shortfall := r.shortfall
          flags := { r.flags with idle := r.flags.idle || decide (s.mode.state ≠ .run) } } } := by
  rw [complete_engine, ← bne_run]
  rfl

/-- A completion moves the FAULT line, the queue, the faults, the engine, the slots and the ports
alone. -/
theorem complete_frame (x : Inputs) (s : State) : complete x s =
    { s with
      lines := { s.lines with fault := (complete x s).lines.fault }
      queue := (complete x s).queue
      faults := (complete x s).faults
      engine := (complete x s).engine
      commands := (complete x s).commands
      ports := (complete x s).ports } := by
  have hlines : (complete x s).lines = { s.lines with fault := (complete x s).lines.fault } := by
    have hreset : (complete x s).lines.reset = s.lines.reset := by simp
    have hshutoff : (complete x s).lines.shutoff = s.lines.shutoff := by simp
    dsimp only
    rw [← hreset, ← hshutoff]
  exact State.ext_fields hlines (by simp) (by simp) (by simp) (by simp) (by simp) (by simp)
    (by simp)
    (by simp) rfl rfl rfl (fun _ => rfl) (fun _ => rfl) (by simp) (by simp)

theorem complete_linkFault (x : Inputs) (s : State) (p : Port) :
    (complete x s).faults.get (linkFault p) = s.faults.get (linkFault p) := by
  rw [complete_faults, handObservations_get]
  cases p <;> rfl

theorem complete_axleStall (x : Inputs) (s : State) (a : Axle) :
    (complete x s).faults.get (axleStall a) =
      observedRecord .latched (s.params.read Param.stallWindow)
        (stallPresent x (complete x s).engine.record.sent a) (s.faults.get (axleStall a)) := by
  rw [complete_engine, complete_faults, handObservations_get]
  cases a <;> rfl

theorem complete_axleSlip (x : Inputs) (s : State) (a : Axle) :
    (complete x s).faults.get (axleSlip a) =
      observedRecord .active (s.params.read Param.slipQual)
        (slipPresent x s (complete x s).engine.record.corr a) (s.faults.get (axleSlip a)) := by
  rw [complete_engine, complete_faults, handObservations_get]
  cases a <;> rfl

/-- Settles O47. -/
theorem completionPublishesTheComputation : Obligations.CompletionPublishesTheComputation := by
  intro s hr a t
  have hmode : s.mode = a.mode := by simp [a]
  have hparams : s.params = a.params := by simp [a]
  refine ⟨exec_of_released hr rfl rfl, completeInFlight_of_none, fun x hx => ?_⟩
  have ht : t = complete x a := completeInFlight_of_some hx
  rw [hmode, hparams, ht]
  have hengine := complete_engine_eq x a
  refine ⟨complete_frame x a, hengine, complete_linkFault x a, fun ax => ?_, fun ax => ?_,
    fun hline => ?_⟩
  · rw [complete_axleStall, hengine]
    simp only [stallPresent, Bool.decide_and]
    rfl
  · rw [complete_axleSlip, hengine]
    rfl
  · exact complete_settled x hline

end Sys2Proof.Machine
end

section
/-! PROOFS, spec 10 (R152, R160, R161), spec 11 (R170) and spec 01 (R4): which commands reach the
device state, the parameters, the maps and the records. One rule for the arrival of a request over
whatever its owner does; the statements over all commands are assembled from what each owner
does. -/
namespace Sys2Proof.Machine

/-! What the arrival of a frame leaves alone, whatever its owner does (R171). -/

/-- A frame command takes the frame that it spells (R165, R171). -/
theorem effect_of_frame {c : Instr} {p : Port} {f : List Byte} (hwf : c.wellFormed = true)
    (hp : portOf c = some p) (hf : commandFrame c = some f) (o : Order) :
    effect c o = frameArrives c p (takeFrame c o) := by
  cases c <;> simp only [commandFrame, portOf, reduceCtorEq, Option.some.injEq] at hf hp <;>
    subst hp
  case unknownKind =>
    funext x
    exact if_pos hwf
  all_goals rfl

/-- The blocks that no arrival reaches but by its owner: the device state, the parameters, the maps,
the Demand and Reference Records, the table and the instant. -/
structure SameRecords (s t : State) : Prop where
  mode : t.mode = s.mode
  params : t.params = s.params
  maps : t.maps = s.maps
  demand : t.demand = s.demand
  reference : t.reference = s.reference
  table : t.table = s.table
  instant : t.instant = s.instant

theorem SameRecords.rfl {s : State} : SameRecords s s := by constructor <;> exact Eq.refl _

theorem SameRecords.trans {s t u : State} (h : SameRecords s t) (h' : SameRecords t u) :
    SameRecords s u :=
  ⟨h'.mode.trans h.mode, h'.params.trans h.params, h'.maps.trans h.maps, h'.demand.trans h.demand,
    h'.reference.trans h.reference, h'.table.trans h.table, h'.instant.trans h.instant⟩

theorem sameRecords_heard (p : Port) (s : State) : SameRecords s (heard p s) :=
  ⟨rfl, rfl, rfl, rfl, rfl, rfl, rfl⟩

theorem sameRecords_refreshPort (p : Port) (s : State) : SameRecords s (refreshPort p s) := by
  constructor <;> simp

theorem sameRecords_breakFrame (p : Port) (s : State) : SameRecords s (breakFrame p s) :=
  ⟨rfl, rfl, rfl, rfl, rfl, rfl, rfl⟩

/-- A REPLY or an OVERRUN reaches nothing but its port. -/
theorem sameRecords_answerFrame {p : Port} {tag kind : Byte} {decide : State → Answer} {s : State}
    (h : SameRecords s (decide s).state) : SameRecords s (answerFrame p tag kind decide s) := by
  unfold answerFrame
  split
  · exact ⟨rfl, rfl, rfl, rfl, rfl, rfl, rfl⟩
  · exact h.trans ⟨rfl, rfl, rfl, rfl, rfl, rfl, rfl⟩

theorem sameRecords_refused (p : Port) (tag kind : Byte) (code : ReplyCode) (s : State) :
    SameRecords s (answerFrame p tag kind (fun x => refuse x code) (refreshPort p s)) :=
  (sameRecords_refreshPort p s).trans (sameRecords_answerFrame .rfl)

theorem sameRecords_takeRequest {p : Port} {k : Kind} {owner : State → Answer}
    (h : ∀ x, permitted x p k = true → SameRecords x (owner x).state) (tag : Byte) (s : State) :
    SameRecords s (takeRequest p tag k owner s) := by
  unfold takeRequest
  refine (sameRecords_refreshPort p s).trans (sameRecords_answerFrame ?_)
  split
  · next hp => exact h _ hp
  · exact .rfl

/-! The drive units' ports (R170). -/

/-- A port of a drive unit. -/
def IsDriveUnit (p : Port) : Prop := p = .pf ∨ p = .pr

/-- The kinds that a drive unit's port permits. -/
theorem not_permitted_of_isDriveUnit {p : Port} (hp : IsDriveUnit p) {k : Kind} (hpoll : k ≠ .poll)
    (henvelope : k ≠ .envelope) (s : State) : permitted s p k = false := by
  rcases hp with rfl | rfl <;> cases k <;> simp_all [permitted]

theorem sameRecords_takeRequest_of_isDriveUnit {p : Port} (hp : IsDriveUnit p) {k : Kind}
    (hpoll : k ≠ .poll) (henvelope : k ≠ .envelope) (tag : Byte) (owner : State → Answer)
      (s : State) :
    SameRecords s (takeRequest p tag k owner s) := by
  refine sameRecords_takeRequest (fun x hx => ?_) tag s
  rw [not_permitted_of_isDriveUnit hp hpoll henvelope] at hx
  exact absurd hx Bool.false_ne_true

theorem sameRecords_takeRecord_of_isDriveUnit {p : Port} (hp : IsDriveUnit p) {k : Kind}
    (hpoll : k ≠ .poll) (henvelope : k ≠ .envelope) (tag : Byte) (o : Order) (r : Remainder)
    (record : State → State) (s : State) : SameRecords s (takeRecord p tag k o r record s) := by
  rw [takeRecord, not_permitted_of_isDriveUnit hp hpoll henvelope]
  exact sameRecords_refused p tag _ _ s

theorem sameRecords_takeStreaming {p : Port} {k : Kind} {record : State → State}
    (h : ∀ x, SameRecords x (record x)) (tag : Byte) (s : State) :
    SameRecords s (takeStreaming p tag k record s) := by
  unfold takeStreaming
  dsimp only
  split
  · exact (sameRecords_refreshPort p s).trans (h _)
  · exact sameRecords_refused p tag _ _ s

/-- No frame on a drive unit's port reaches those blocks. -/
theorem sameRecords_takeFrame {c : Instr} {p : Port} (hc : portOf c = some p) (hp : IsDriveUnit p)
    (o : Order) (s : State) : SameRecords s (takeFrame c o s) := by
  cases c <;> simp only [portOf, reduceCtorEq, Option.some.injEq] at hc <;> subst hc
  case envelope p tag d r v b =>
    exact sameRecords_takeStreaming (fun x => by constructor <;> simp) tag s
  case poll p tag =>
    exact sameRecords_takeStreaming (p := p) (k := .poll) (record := triggerStatus p)
      (fun x => ⟨rfl, rfl, rfl, rfl, rfl, rfl, rfl⟩) tag s
  case demand => exact sameRecords_takeRecord_of_isDriveUnit hp (by decide) (by decide) _ _ _ _ s
  case reference => exact sameRecords_takeRecord_of_isDriveUnit hp (by decide) (by decide) _ _ _ _ s
  case unknownKind => exact sameRecords_refused _ _ _ _ s
  case crcError => exact ⟨rfl, rfl, rfl, rfl, rfl, rfl, rfl⟩
  case deadlineExpiry => exact .rfl
  case receiveIdle => exact .rfl
  case frameGap => exact .rfl
  case framingError => exact .rfl
  case byteInHunt => exact .rfl
  case transmitCompletion => exact .rfl
  case byteArrival => exact .rfl
  all_goals exact sameRecords_takeRequest_of_isDriveUnit hp (by decide) (by decide) _ _ s

/-- The command that a frame spells is on the frame's port. -/
theorem portOf_decodeFrame (p : Port) (frame : List Byte) :
    portOf (decodeFrame p frame) = some p := by
  unfold decodeFrame decodeKind
  split
  · dsimp only
    split <;> rfl
  · rfl

theorem sameRecords_released {f : State → State} {s : State} (h : SameRecords s (f s)) :
    SameRecords s (released f s) := by
  unfold released
  split
  exacts [.rfl, h]

theorem sameRecords_frameArrives {c : Instr} {p : Port} {take : State → State}
    (h : ∀ s, SameRecords s (take s)) (s : State) : SameRecords s (frameArrives c p take s) := by
  rw [frameArrives_eq]
  split
  exacts [(sameRecords_heard p s).trans (h _), .rfl]

theorem sameRecords_receiveByte {p : Port} (hp : IsDriveUnit p) (b : Byte) (o : Order) (s : State) :
    SameRecords s (receiveByte p b o s) := by
  have hreceiver : ∀ r, SameRecords s (setReceiver p r s) := fun _ => ⟨rfl, rfl, rfl, rfl, rfl, rfl,
    rfl⟩
  unfold receiveByte
  split
  · exact ⟨rfl, rfl, rfl, rfl, rfl, rfl, rfl⟩
  · exact hreceiver _
  · split
    · exact hreceiver _
    · exact (hreceiver _).trans (sameRecords_takeFrame (portOf_decodeFrame p _) hp o _)

/-- Nothing that happens on a drive unit's port reaches those blocks. -/
theorem sameRecords_effect {c : Instr} {p : Port} (hc : portOf c = some p) (hp : IsDriveUnit p)
    (o : Order) (s : State) : SameRecords s (effect c o s) := by
  have hbreak : SameRecords s (released (breakFrame p) s) :=
    sameRecords_released (sameRecords_breakFrame p s)
  have hframe := sameRecords_frameArrives (c := c) (p := p) (sameRecords_takeFrame hc hp o) s
  cases c <;> simp only [portOf, reduceCtorEq, Option.some.injEq] at hc <;> subst hc
  case framingError => exact hbreak
  case crcError => exact hbreak
  case deadlineExpiry => exact sameRecords_released (by constructor <;> simp)
  case receiveIdle =>
    simp only [effect]
    refine sameRecords_released ?_
    split
    exacts [⟨rfl, rfl, rfl, rfl, rfl, rfl, rfl⟩, .rfl]
  case frameGap =>
    simp only [effect]
    refine sameRecords_released ?_
    split
    exacts [sameRecords_breakFrame _ s, .rfl, .rfl]
  case byteInHunt =>
    simp only [effect]
    refine sameRecords_released ?_
    split
    exacts [⟨rfl, rfl, rfl, rfl, rfl, rfl, rfl⟩, .rfl]
  case transmitCompletion =>
    simp only [effect]
    refine sameRecords_released ?_
    split
    · constructor <;> simp
    · exact .rfl
  case byteArrival => exact sameRecords_released (sameRecords_receiveByte hp _ o s)
  case unknownKind =>
    simp only [effect]
    split
    exacts [hframe, .rfl]
  all_goals exact hframe

/-! What surrounds a command where nothing is left to take. -/

theorem settledInstant_demand (s : State) : (endInstant none s).demand = s.demand := by
  simp [endInstant]

theorem settledInstant_reference (s : State) : (endInstant none s).reference = s.reference := by
  simp [endInstant]

theorem opened_demand_of_none {s : State} (h : s.instant.remainder = none) :
    (opened s).demand = s.demand ∧ (opened s).reference = s.reference := by
  unfold opened
  split
  · simp
  · rw [h]
    simp [settledInstant_demand, settledInstant_reference]

theorem closed_demand_of_none {s u : State} (hs : s.instant.remainder = none)
    (hu : u.instant.remainder = none) :
    (closed s u).demand = u.demand ∧ (closed s u).reference = u.reference := by
  have howed : owed s = none := by
    unfold owed
    split
    exacts [hs, rfl]
  unfold closed endUnlessJoined
  rw [howed, finish_none]
  split
  · exact ⟨rfl, rfl⟩
  · rw [hu]
    simp [settledInstant_demand, settledInstant_reference]

/-- Settles O20. -/
theorem driveUnitsCannotConfigure : Obligations.DriveUnitsCannotConfigure := by
  intro c s p hc hp
  have h := sameRecords_effect hc hp (timingOf s).order (opened s)
  have hmode := h.mode.trans (opened_mode s)
  have hparams := h.params.trans (opened_params s)
  have hmaps := h.maps.trans (opened_maps s)
  have htable := h.table.trans (opened_table s)
  refine ⟨_, exec_eq c s, h.demand, h.reference, hmode, hparams, hmaps, htable,
    (closed_mode _ _).trans hmode, (closed_params _ _).trans hparams, (closed_maps _ _).trans hmaps,
    (closed_table _ _).trans htable, fun hnone => ?_⟩
  have hleft := (congrArg Instant.remainder h.instant).trans (opened_remainder s)
  obtain ⟨hd, hr⟩ := closed_demand_of_none hnone hleft
  obtain ⟨hd', hr'⟩ := opened_demand_of_none hnone
  exact ⟨hd.trans (h.demand.trans hd'), hr.trans (h.reference.trans hr')⟩

end Sys2Proof.Machine
end

section
/-! PROOFS, spec 10 (R152, R160, R161) and spec 01 (R4): the device state, the parameters and the
computation in flight, over every command. A command has at most one owner that reaches the first
two, and each owner is taken on its own. -/
namespace Sys2Proof.Machine

/-- From the one state to the other the device state moves as R152's table says, and the parameters
and the window lock as R160 and R161 allow. -/
structure Governed (s t : State) : Prop where
  state : t.mode.state = s.mode.state ∨ (s.mode.state = .run ∧ t.mode.state = .halt) ∨
    (s.mode.state = .halt ∧ t.mode.state = .config) ∨
    (s.mode.state ≠ .run ∧ t.mode.state = .run ∧ s.lines.shutoff = false ∧
      consistent s.params = true)
  params : s.mode.state ≠ .config → t.params = s.params
  lock : s.mode.windowLock = true → t.mode.windowLock = true
  windows : s.mode.windowLock = true →
    ∀ p, t.params.read (windowParam p) = s.params.read (windowParam p)

theorem Governed.of_same {s t : State} (hm : t.mode = s.mode) (hp : t.params = s.params) :
    Governed s t where
  state := .inl (congrArg _ hm)
  params _ := hp
  lock h := by rw [hm, h]
  windows _ _ := by rw [hp]

theorem Governed.congr {s t s' t' : State} (h : Governed s t) (hsm : s'.mode = s.mode)
    (hsp : s'.params = s.params) (hsl : s'.lines.shutoff = s.lines.shutoff) (htm : t'.mode = t.mode)
    (htp : t'.params = t.params) : Governed s' t' where
  state := by rw [hsm, hsp, hsl, htm]; exact h.state
  params := by rw [hsm, hsp, htp]; exact h.params
  lock := by rw [hsm, htm]; exact h.lock
  windows := by rw [hsm, hsp, htp]; exact h.windows

/-! The owners that reach them (R153 to R158, R162). -/

theorem governed_enterRun {s : State} (hm : s.mode.state ≠ .run) (hs : s.lines.shutoff = false)
    (hc : consistent s.params = true) : Governed s (enterRun s) where
  state := .inr (.inr (.inr ⟨hm, by rw [enterRun_mode], hs, hc⟩))
  params _ := by simp
  lock _ := by rw [enterRun_mode]
  windows _ _ := by simp

theorem Governed.of_halted {s t : State} (hs : s.mode.state = .run)
    (hm : t.mode = { s.mode with state := .halt }) (hp : t.params = s.params) : Governed s t where
  state := .inr (.inl ⟨hs, by rw [hm]⟩)
  params _ := hp
  lock h := by rw [hm, h]
  windows _ _ := by rw [hp]

theorem governed_enterHalt {s : State} (hm : s.mode.state = .run) : Governed s (enterHalt s) :=
  .of_halted hm (enterHalt_mode s) (by simp)

theorem governed_enterConfig {s : State} (hm : s.mode.state = .halt) :
    Governed s (enterConfig s) where
  state := .inr (.inr (.inl ⟨hm, by rw [enterConfig_mode]⟩))
  params _ := by simp
  lock h := by rw [enterConfig_mode, h]
  windows _ _ := by simp

theorem isWindow_windowParam (p : Port) : Param.isWindow (windowParam p).val = true := by
  cases p <;> rfl

/-- A write is made in CONFIG alone, and to no locked window (R161, R162). -/
theorem governed_writeParam {i : Fin 40} {s : State} (v : Nat) (hm : s.mode.state = .config)
    (hfree : (Param.isWindow i.val && s.mode.windowLock) = false) :
    Governed s (writeParam i v s) where
  state := .inl (by rw [writeParam_mode])
  params h := absurd hm h
  lock h := by rw [writeParam_mode, h]
  windows h p := by
    have hne : windowParam p ≠ i := by
      rintro rfl
      rw [isWindow_windowParam, h] at hfree
      exact absurd hfree nofun
    rw [writeParam_params, Params.read_write, if_neg hne]

theorem governed_setParamAnswer (id : Byte) (v : Half) (s : State) :
    Governed s (setParamAnswer id v s).state := by
  unfold setParamAnswer
  split
  · next hm =>
    split
    · exact .of_same rfl rfl
    · split
      · exact .of_same rfl rfl
      · next hfree =>
        split
        · exact governed_writeParam _ hm (by simpa using hfree)
        · exact .of_same rfl rfl
  · exact .of_same rfl rfl

theorem governed_startAnswer (s : State) : Governed s (startAnswer s).state := by
  unfold startAnswer
  split
  · exact .of_same rfl rfl
  · next hm =>
    split
    · exact .of_same rfl rfl
    · next hs =>
      split
      · next hc => exact governed_enterRun hm (by simpa using hs) hc
      · exact .of_same rfl rfl

theorem governed_stopAnswer (s : State) : Governed s (stopAnswer s).state := by
  unfold stopAnswer
  split
  · next hm => exact governed_enterHalt hm
  · exact .of_same rfl rfl
  · exact .of_same rfl rfl

theorem governed_configureAnswer (s : State) : Governed s (configureAnswer s).state := by
  unfold configureAnswer
  split
  · next hm => exact governed_enterConfig hm
  · exact .of_same rfl rfl
  · exact .of_same rfl rfl

/-! The owners that do not. -/

theorem governed_readParamAnswer (id : Byte) (s : State) :
    Governed s (readParamAnswer id s).state := by
  unfold readParamAnswer
  split <;> exact .of_same rfl rfl

theorem governed_writeCellsAnswer (m st sp n : Byte) (vs : List Half) (s : State) :
    Governed s (writeCellsAnswer m st sp n vs s).state := by
  unfold writeCellsAnswer
  split
  · exact .of_same rfl rfl
  · split <;> exact .of_same rfl rfl

theorem governed_selectMapsAnswer (d r : Byte) (s : State) :
    Governed s (selectMapsAnswer d r s).state := by
  unfold selectMapsAnswer
  split <;> exact .of_same rfl rfl

theorem governed_clearFaultAnswer (id : Byte) (s : State) :
    Governed s (clearFaultAnswer id s).state := by
  unfold clearFaultAnswer
  split
  · have hframe := (releasedAll_foldl allFaults s).frame
    exact .of_same (by rw [hframe]) (by rw [hframe])
  · split
    · exact .of_same rfl rfl
    · split
      · exact .of_same rfl rfl
      · exact .of_same (by simp [taken]) (by simp [taken])

theorem governed_queueSegmentAnswer (i sh e : Byte) (t d : Half) (s : State) :
    Governed s (queueSegmentAnswer i sh e t d s).state := by
  unfold queueSegmentAnswer
  dsimp only
  repeat' split
  all_goals exact .of_same rfl rfl

theorem governed_interveneAnswer (i k a : Byte) (v l : Half) (s : State) :
    Governed s (interveneAnswer i k a v l s).state := by
  unfold interveneAnswer
  split
  · exact .of_same rfl rfl
  · split <;> exact .of_same rfl rfl

theorem governed_releaseAnswer (i : Byte) (s : State) : Governed s (releaseAnswer i s).state := by
  unfold releaseAnswer
  split
  · exact .of_same rfl rfl
  · split <;> exact .of_same rfl rfl

/-! The arrival of a frame, and every command. -/

theorem SameRecords.governed {s t : State} (h : SameRecords s t) : Governed s t :=
  .of_same h.mode h.params

theorem governed_takeRequest {p : Port} {k : Kind} {owner : State → Answer}
    (h : ∀ x, Governed x (owner x).state) (tag : Byte) (s : State) :
    Governed s (takeRequest p tag k owner s) := by
  unfold takeRequest answerFrame
  dsimp only
  split
  · exact .of_same (by simp) (by simp)
  · split
    · exact (h (refreshPort p s)).congr (by simp) (by simp) (by simp) (by simp) (by simp)
    · exact .of_same (by simp [refuse]) (by simp [refuse])

theorem governed_takeRecord {p : Port} {k : Kind} {r : Remainder} {record : State → State}
    (hm : ∀ x, (record x).mode = x.mode) (hp : ∀ x, (record x).params = x.params) (tag : Byte)
    (o : Order) (s : State) : Governed s (takeRecord p tag k o r record s) := by
  unfold takeRecord supervisionAndRecord
  split
  · split <;> exact .of_same (by simp [hm]) (by simp [hp])
  · exact (sameRecords_refused p tag _ _ s).governed

theorem governed_takeFrame (c : Instr) (o : Order) (s : State) : Governed s (takeFrame c o s) := by
  cases c
  case demand =>
    exact governed_takeRecord (fun _ => storeDemand_mode _ _ _ _)
      (fun _ => storeDemand_params _ _ _ _)
      _ o s
  case reference =>
    exact governed_takeRecord (fun _ => storeReference_mode _ _ _ _)
      (fun _ => storeReference_params _ _ _ _) _ o s
  case envelope p tag d r v b =>
    exact (sameRecords_takeStreaming (fun x => by constructor <;> simp) tag s).governed
  case poll p tag =>
    exact (sameRecords_takeStreaming (p := p) (k := .poll) (record := triggerStatus p)
      (fun x => ⟨rfl, rfl, rfl, rfl, rfl, rfl, rfl⟩) tag s).governed
  case unknownKind => exact (sameRecords_refused _ _ _ _ s).governed
  case setParam => exact governed_takeRequest (governed_setParamAnswer _ _) _ s
  case readParam => exact governed_takeRequest (governed_readParamAnswer _) _ s
  case writeCells => exact governed_takeRequest (governed_writeCellsAnswer _ _ _ _ _) _ s
  case selectMaps => exact governed_takeRequest (governed_selectMapsAnswer _ _) _ s
  case start => exact governed_takeRequest governed_startAnswer _ s
  case stop => exact governed_takeRequest governed_stopAnswer _ s
  case configure => exact governed_takeRequest governed_configureAnswer _ s
  case clearFault => exact governed_takeRequest (governed_clearFaultAnswer _) _ s
  case queueSegment => exact governed_takeRequest (governed_queueSegmentAnswer _ _ _ _ _) _ s
  case abortProgram => exact governed_takeRequest (fun _ => .of_same rfl rfl) _ s
  case intervene => exact governed_takeRequest (governed_interveneAnswer _ _ _ _ _) _ s
  case release => exact governed_takeRequest (governed_releaseAnswer _) _ s
  all_goals exact .of_same rfl rfl

theorem governed_released {f : State → State} {s : State} (h : Governed s (f s)) :
    Governed s (released f s) := by
  unfold released
  split
  exacts [.of_same rfl rfl, h]

theorem governed_frameArrives (c : Instr) (p : Port) (o : Order) (s : State) :
    Governed s (frameArrives c p (takeFrame c o) s) := by
  rw [frameArrives_eq]
  split
  · exact (governed_takeFrame c o (heard p s)).congr rfl rfl rfl rfl rfl
  · exact .of_same rfl rfl

theorem governed_receiveByte (p : Port) (b : Byte) (o : Order) (s : State) :
    Governed s (receiveByte p b o s) := by
  unfold receiveByte
  split
  · exact .of_same rfl rfl
  · exact .of_same rfl rfl
  · split
    · exact .of_same rfl rfl
    · exact (governed_takeFrame _ o (setReceiver p .hunt s)).congr rfl rfl rfl rfl rfl

theorem governed_effect {c : Instr} (hc : c ≠ .resetAssert) (o : Order) (s : State) :
    Governed s (effect c o s) := by
  have hframe : ∀ p, Governed s (frameArrives c p (takeFrame c o) s) := fun p =>
    governed_frameArrives c p o s
  cases c
  case resetAssert => exact absurd rfl hc
  case resetRelease =>
    simp only [effect]
    split <;> exact .of_same rfl rfl
  case shutoffAssert =>
    simp only [effect]
    split
    · next h =>
      simp only [Bool.and_eq_true, beq_iff_eq] at h
      exact .of_halted h.2 (enterHalt_mode _) (by simp)
    · exact .of_same rfl rfl
  case shutoffRelease => exact .of_same rfl rfl
  case periodExpiry =>
    simp only [effect]
    refine governed_released ?_
    cases o <;> exact .of_same (by simp [takePeriodExpiry]) (by simp [takePeriodExpiry])
  case completion =>
    simp only [effect]
    exact governed_released (.of_same (by simp) (by simp))
  case lifetimeExpiry =>
    simp only [effect]
    exact governed_released (.of_same rfl rfl)
  case byteArrival p b =>
    simp only [effect]
    exact governed_released (governed_receiveByte p b o s)
  case unknownKind p tag k =>
    simp only [effect]
    split
    · exact hframe p
    · exact .of_same rfl rfl
  case deadlineExpiry =>
    simp only [effect]
    exact governed_released (.of_same (by simp) (by simp))
  case receiveIdle =>
    simp only [effect]
    refine governed_released ?_
    split <;> exact .of_same rfl rfl
  case frameGap =>
    simp only [effect]
    refine governed_released ?_
    split <;> exact .of_same rfl rfl
  case framingError =>
    simp only [effect]
    exact governed_released (.of_same rfl rfl)
  case byteInHunt =>
    simp only [effect]
    refine governed_released ?_
    split <;> exact .of_same rfl rfl
  case crcError =>
    simp only [effect]
    exact governed_released (.of_same rfl rfl)
  case transmitCompletion =>
    simp only [effect]
    refine governed_released ?_
    split
    · exact .of_same (by simp) (by simp)
    · exact .of_same rfl rfl
  all_goals exact hframe _

/-- What a command's effect does, the command does: nothing around it reaches the device state or a
parameter. -/
theorem governed_exec {c : Instr} {s t : State} (h : exec c s = .next t) (hc : c ≠ .resetAssert) :
    Governed s t := by
  rw [exec_eq] at h
  obtain rfl := Host.Outcome.next.inj h
  exact (governed_effect hc (timingOf s).order (opened s)).congr (by simp) (by simp) (by simp)
    (by simp) (by simp)

/-- Settles O18. -/
theorem modeChangesOnlyByTheTable : Obligations.ModeChangesOnlyByTheTable :=
  fun _ _ _ h hc => (governed_exec h hc).state

/-- Settles O19. -/
theorem parametersAreLockedOutsideConfig : Obligations.ParametersAreLockedOutsideConfig := by
  intro c s t h hc
  have hg := governed_exec h hc
  exact ⟨hg.params, fun hl => ⟨hg.lock hl, hg.windows hl⟩⟩

/-! The computation in flight (R4, R5, R7). -/

theorem inFlight_keptByEvents (x : Inputs) : KeptByEvents fun s => s.engine.inFlight = some x :=
  .of (run := fun s _ _ _ h => by rw [enterRun_engine]; exact h)

/-- RESET_RELEASE begins an interval and leaves the computation in flight. -/
theorem inFlight_resetRelease {x : Inputs} {s t : State} (h : s.engine.inFlight = some x)
    (hl : ∀ y : State,
      y.engine.inFlight = some x → (finish s.instant.remainder y).engine.inFlight = some x)
    (ht : exec .resetRelease s = .next t) : t.engine.inFlight = some x := by
  have K := (inFlight_keptByEvents x).untimed
  refine (K.around (f := fun _ y => if y.lines.reset then
      (y.withLines { y.lines with reset := false }).withEngine
        { y.engine with interval := some (paramDefaults.read Param.periodUs) } else y)
    (fun _ y hy => ?_) (fun y hy => ⟨hl y hy.1, ?_⟩) (fun u hu y hy => ?_) ⟨h, nofun, nofun⟩ ht).1
  · dsimp only
    split
    · exact ⟨hy.1, hy.2⟩
    · exact hy
  · unfold Untimed
    rw [finish_remainder]
    exact hy.2
  · exact K.finishes hu.2.1 hu.2.2 y hy

/-- Settles O21: the only operations that end a computation are the completion, a start and
RESET. -/
theorem inputsAreHeldUntilCompletion : Obligations.InputsAreHeldUntilCompletion := by
  intro c s t x hx hstart h h1 h2 h3
  have K := inFlight_keptByEvents x
  have hl : ∀ y : State, y.engine.inFlight = some x →
      (finish s.instant.remainder y).engine.inFlight = some x := by
    intro y hy
    by_cases hcount : s.instant.remainder = some .countdown
    · rw [hcount]
      unfold finish
      split
      · exact hy
      · simpa using hy
    · exact K.finishes hstart hcount y hy
  by_cases h4 : c = .resetRelease
  · subst h4
    exact inFlight_resetRelease hx hl h
  · exact K.ofExec h1 h2 h3 h4 hl (by simpa using hx) h

end Sys2Proof.Machine
end

section
/-! PROOFS, spec 11 (R165, R167, R168, R181): a frame and its bytes. First the bytes of each kind
decode to its command; then the arrival of the last byte is the frame command, and the bytes before
it are held one by one. -/
namespace Sys2Proof.Machine

/-! Decoding (R168, R181). -/

/-- The two frames agree on a byte that is listed. -/
theorem halfAt_of_listed {f g : List Byte} {l : List Nat} (hl : ∀ i ∈ l, byteAt g i = byteAt f i)
    {n : Nat} {h : Half} (h0 : n ∈ l) (h1 : n + 1 ∈ l) (hlo : byteAt f n = lowByte h)
    (hhi : byteAt f (n + 1) = highByte h) : halfAt g n = h :=
  halfAt_of_bytes ((hl n h0).trans hlo) ((hl (n + 1) h1).trans hhi)

/-- A kind byte that is none of the sixteen spells an unknown kind (R169). -/
theorem decodeKind_of_notMem {p : Port} {g : List Byte} (h : byteAt g 0 ∉ receivedKinds) :
    decodeKind p g = .unknownKind p (byteAt g 1) (byteAt g 0) := by
  have hne : ∀ k : Byte, k ∈ receivedKinds → (byteAt g 0).toNat ≠ k.toNat := fun k hk e =>
    h (BitVec.eq_of_toNat_eq e ▸ hk)
  unfold decodeKind
  dsimp only
  split
  case h_17 => rfl
  case h_1 e => exact absurd e (hne 0x10#8 (by decide))
  case h_2 e => exact absurd e (hne 0x20#8 (by decide))
  case h_3 e => exact absurd e (hne 0x30#8 (by decide))
  case h_4 e => exact absurd e (hne 0x41#8 (by decide))
  case h_5 e => exact absurd e (hne 0x42#8 (by decide))
  case h_6 e => exact absurd e (hne 0x43#8 (by decide))
  case h_7 e => exact absurd e (hne 0x44#8 (by decide))
  case h_8 e => exact absurd e (hne 0x51#8 (by decide))
  case h_9 e => exact absurd e (hne 0x52#8 (by decide))
  case h_10 e => exact absurd e (hne 0x53#8 (by decide))
  case h_11 e => exact absurd e (hne 0x54#8 (by decide))
  case h_12 e => exact absurd e (hne 0x61#8 (by decide))
  case h_13 e => exact absurd e (hne 0x62#8 (by decide))
  case h_14 e => exact absurd e (hne 0x71#8 (by decide))
  case h_15 e => exact absurd e (hne 0x72#8 (by decide))
  case h_16 e => exact absurd e (hne 0x7F#8 (by decide))

/-- A frame that agrees with a command's in kind, tag and listed bytes spells the command. -/
theorem decodeKind_of_agrees {c : Instr} {p : Port} {f g : List Byte} (hwf : c.wellFormed = true)
    (hp : portOf c = some p) (hf : commandFrame c = some f) (h0 : byteAt g 0 = byteAt f 0)
    (h1 : byteAt g 1 = byteAt f 1) (hl : ∀ i ∈ listedBytes c, byteAt g i = byteAt f i) :
    decodeKind p g = c := by
  cases c <;> simp only [commandFrame, portOf, reduceCtorEq, Option.some.injEq] at hf hp <;>
    subst hp <;> subst hf <;> simp only [listedBytes] at hl
  case unknownKind p tag k =>
    have hkind : byteAt g 0 = k := h0
    have htag : byteAt g 1 = tag := h1
    rw [decodeKind_of_notMem, htag, hkind]
    rw [hkind]
    simpa [Instr.wellFormed] using hwf
  case demand p tag t b =>
    have ht : halfAt g 2 = t := halfAt_of_listed hl (by decide) (by decide) rfl rfl
    have hb : byteAt g 4 = b := hl 4 (by decide)
    simp only [decodeKind, h0, h1, ht, hb]
    rfl
  case reference p tag v b =>
    have hv : halfAt g 2 = v := halfAt_of_listed hl (by decide) (by decide) rfl rfl
    have hb : byteAt g 4 = b := hl 4 (by decide)
    simp only [decodeKind, h0, h1, hv, hb]
    rfl
  case envelope p tag d r v b =>
    have hd : halfAt g 2 = d := halfAt_of_listed hl (by decide) (by decide) rfl rfl
    have hr : halfAt g 4 = r := halfAt_of_listed hl (by decide) (by decide) rfl rfl
    have hv : halfAt g 6 = v := halfAt_of_listed hl (by decide) (by decide) rfl rfl
    have hb : byteAt g 8 = b := hl 8 (by decide)
    simp only [decodeKind, h0, h1, hd, hr, hv, hb]
    rfl
  case setParam p tag i v =>
    have hi : byteAt g 2 = i := hl 2 (by decide)
    have hv : halfAt g 4 = v := halfAt_of_listed hl (by decide) (by decide) rfl rfl
    simp only [decodeKind, h0, h1, hi, hv]
    rfl
  case readParam p tag i =>
    have hi : byteAt g 2 = i := hl 2 (by decide)
    simp only [decodeKind, h0, h1, hi]
    rfl
  case clearFault p tag i =>
    have hi : byteAt g 2 = i := hl 2 (by decide)
    simp only [decodeKind, h0, h1, hi]
    rfl
  case release p tag i =>
    have hi : byteAt g 2 = i := hl 2 (by decide)
    simp only [decodeKind, h0, h1, hi]
    rfl
  case selectMaps p tag d r =>
    have hd : byteAt g 2 = d := hl 2 (by decide)
    have hr : byteAt g 3 = r := hl 3 (by decide)
    simp only [decodeKind, h0, h1, hd, hr]
    rfl
  case writeCells p tag m st sp n v0 v1 v2 v3 =>
    have hm : byteAt g 2 = m := hl 2 (by decide)
    have hst : byteAt g 3 = st := hl 3 (by decide)
    have hsp : byteAt g 4 = sp := hl 4 (by decide)
    have hn : byteAt g 5 = n := hl 5 (by decide)
    have h6 : halfAt g 6 = v0 := halfAt_of_listed hl (by decide) (by decide) rfl rfl
    have h8 : halfAt g 8 = v1 := halfAt_of_listed hl (by decide) (by decide) rfl rfl
    have h10 : halfAt g 10 = v2 := halfAt_of_listed hl (by decide) (by decide) rfl rfl
    have h12 : halfAt g 12 = v3 := halfAt_of_listed hl (by decide) (by decide) rfl rfl
    simp only [decodeKind, h0, h1, hm, hst, hsp, hn, h6, h8, h10, h12]
    rfl
  case queueSegment p tag i sh e t d =>
    have hi : byteAt g 2 = i := hl 2 (by decide)
    have hsh : byteAt g 3 = sh := hl 3 (by decide)
    have he : byteAt g 4 = e := hl 4 (by decide)
    have ht : halfAt g 6 = t := halfAt_of_listed hl (by decide) (by decide) rfl rfl
    have hd : halfAt g 8 = d := halfAt_of_listed hl (by decide) (by decide) rfl rfl
    simp only [decodeKind, h0, h1, hi, hsh, he, ht, hd]
    rfl
  case intervene p tag i k a v l =>
    have hi : byteAt g 2 = i := hl 2 (by decide)
    have hk : byteAt g 3 = k := hl 3 (by decide)
    have ha : byteAt g 4 = a := hl 4 (by decide)
    have hv : halfAt g 6 = v := halfAt_of_listed hl (by decide) (by decide) rfl rfl
    have hlife : halfAt g 8 = l := halfAt_of_listed hl (by decide) (by decide) rfl rfl
    simp only [decodeKind, h0, h1, hi, hk, ha, hv, hlife]
    rfl
  all_goals
    simp only [decodeKind, h0, h1]
    rfl

/-- Every frame command's bytes are eighteen and their CRC (R167). -/
theorem commandFrame_eq_sealFrame {c : Instr} {f : List Byte} (hf : commandFrame c = some f) :
    ∃ body : List Byte, body.length = 18 ∧ f = sealFrame body := by
  cases c <;> simp only [commandFrame, reduceCtorEq, Option.some.injEq] at hf <;>
    exact ⟨_, length_frameBody _ _ (by simp), hf.symm⟩

theorem frameWf_commandFrame {c : Instr} {f : List Byte} (hf : commandFrame c = some f) :
    FrameWf f := by
  obtain ⟨body, hlen, rfl⟩ := commandFrame_eq_sealFrame hf
  exact ⟨by rw [length_sealFrame, hlen], goodFrame_sealFrame hlen⟩

theorem decodeFrame_commandFrame {c : Instr} {p : Port} {f : List Byte} (hwf : c.wellFormed = true)
    (hp : portOf c = some p) (hf : commandFrame c = some f) : decodeFrame p f = c := by
  rw [decodeFrame, if_pos (frameWf_commandFrame hf).2]
  exact decodeKind_of_agrees hwf hp hf rfl rfl fun _ _ => rfl

/-- Settles O22. -/
theorem frameBytesDecodeToTheirCommand : Obligations.FrameBytesDecodeToTheirCommand := by
  intro c p f hwf hp hf
  obtain ⟨hlen, hgood⟩ := frameWf_commandFrame hf
  refine ⟨hlen, hgood, decodeFrame_commandFrame hwf hp hf, fun g hg h0 h1 hl => ?_⟩
  rw [decodeFrame, if_pos hg]
  exact decodeKind_of_agrees hwf hp hf h0 h1 hl

end Sys2Proof.Machine
end

section
/-! PROOFS, spec 11 (R165, R167): reception byte by byte. A settled block with no timing listed
takes a receiver's event as it stands, so that a run of bytes is an induction on the bytes. -/
namespace Sys2Proof.Machine

/-! The twentieth byte. -/

/-- The last of a frame's bytes is its CRC's high byte (R167). -/
theorem commandFrame_eq_append {c : Instr} {f : List Byte} (hf : commandFrame c = some f) :
    f = f.take 19 ++ [highByte (crc ((f.take 19).take 18))] := by
  obtain ⟨body, hlen, rfl⟩ := commandFrame_eq_sealFrame hf
  have hseal : sealFrame body = (body ++ [lowByte (crc body)]) ++ [highByte (crc body)] := by
    simp [sealFrame]
  have htake : (sealFrame body).take 19 = body ++ [lowByte (crc body)] := by
    rw [hseal]
    exact List.take_left' (by simp [hlen])
  have hbody : (body ++ [lowByte (crc body)]).take 18 = body := List.take_left' hlen
  rw [htake, hbody]
  exact hseal

theorem length_take_commandFrame {c : Instr} {f : List Byte} (hf : commandFrame c = some f) :
    (f.take 19).length = 19 := by
  rw [List.length_take, (frameWf_commandFrame hf).1]
  rfl

theorem receiveByte_of_full {p : Port} {held : List Byte} {s : State}
    (h : (s.port p).receiver = .receiving held) (hlen : held.length = 19) (b : Byte) (o : Order) :
    receiveByte p b o s = takeFrame (decodeFrame p (held ++ [b])) o (setReceiver p .hunt s) := by
  have hfull : ¬ held.length + 1 < Config.frameBytes := by
    have : Config.frameBytes = 20 := rfl
    omega
  simp only [receiveByte, h, hfull, if_false]
  rfl

/-- With its nineteen bytes held a frame command is taken (R165). -/
theorem frameArrives_of_completes {c : Instr} {p : Port} {held : List Byte} {s : State}
    (h : (s.port p).receiver = .receiving held) (hr : s.lines.reset = false)
    (hc : completes p held c = true) (take : State → State) :
    frameArrives c p take s = take (setReceiver p .hunt s) := by
  rw [frameArrives_eq, if_pos]
  · rfl
  · simp [canArrive, hr, h, hc]

theorem completes_commandFrame {c : Instr} {p : Port} {f : List Byte} (hwf : c.wellFormed = true)
    (hp : portOf c = some p) (hf : commandFrame c = some f) : completes p (f.take 19) c = true := by
  rw [completes, ← commandFrame_eq_append hf, decodeFrame_commandFrame hwf hp hf,
    length_take_commandFrame hf, beq_self_eq_true, beq_self_eq_true, Bool.and_self]

/-- The twentieth byte does what the frame command does (R165, R171). -/
theorem exec_byteArrival_of_frame {c : Instr} {p : Port} {f : List Byte} (hwf : c.wellFormed = true)
    (hp : portOf c = some p) (hf : commandFrame c = some f) {u : State}
    (hu : (u.port p).receiver = .receiving (f.take 19)) :
    exec (.byteArrival p (highByte (crc ((f.take 19).take 18)))) u = exec c u := by
  have hrec : ((opened u).port p).receiver = .receiving (f.take 19) := by rw [opened_receiver, hu]
  rw [exec_eq, exec_eq, effect_of_frame hwf hp hf]
  congr 2
  cases hr : u.lines.reset with
  | true =>
    have hopened : (opened u).lines.reset = true := by rw [opened_lines_reset, hr]
    simp only [effect, released, frameArrives, hopened, if_true]
  | false =>
    have hopened : (opened u).lines.reset = false := by rw [opened_lines_reset, hr]
    rw [frameArrives_of_completes hrec hopened (completes_commandFrame hwf hp hf)]
    simp only [effect]
    rw [released_of_released hopened, receiveByte_of_full hrec (length_take_commandFrame hf),
      ← commandFrame_eq_append hf, decodeFrame_commandFrame hwf hp hf]

/-- A twentieth byte with a bad CRC is a CRC_ERROR (R167). -/
theorem exec_byteArrival_of_bad {p : Port} {held : List Byte} {b : Byte} {u : State}
    (hu : (u.port p).receiver = .receiving held) (hlen : held.length = 19)
    (hbad : goodFrame (held ++ [b]) = false) :
    exec (.byteArrival p b) u = exec (.crcError p) u := by
  have hrec : ((opened u).port p).receiver = .receiving held := by rw [opened_receiver, hu]
  have hdecode : decodeFrame p (held ++ [b]) = .crcError p := by
    rw [decodeFrame, hbad]
    rfl
  rw [exec_eq, exec_eq]
  congr 2
  simp only [effect, released]
  split
  · rfl
  · rw [receiveByte_of_full hrec hlen, hdecode]
    rfl

/-! A settled block with no timing listed. -/

theorem opened_of_no_timing {s : State} (h : Settled s) (ht : s.instant.timing = []) :
    opened s = s := by
  rw [opened_settled h, ht, List.tail_nil, ← ht]
  rfl

/-- The block with a receiver and a queue of commands of its own. -/
def receiving (s : State) (p : Port) (r : Receiver) (cs : List Instr) : State :=
  (s.withPort p { s.port p with receiver := r }).withPending cs

theorem settled_receiving {s : State} (h : Settled s) (p : Port) (r : Receiver) (cs : List Instr) :
    Settled (receiving s p r cs) := by
  obtain ⟨hr, hc, hd, hq⟩ := h
  have hport : ∀ q, (receiving s p r cs).port q =
      if q = p then { s.port p with receiver := r } else s.port q := fun q =>
    State.port_withPort s p q _
  refine ⟨hr, hc, hd, fun q hidle => ?_⟩
  rw [hport] at hidle ⊢
  by_cases hqp : q = p
  · subst hqp
    rw [if_pos rfl] at hidle ⊢
    exact hq q hidle
  · rw [if_neg hqp] at hidle ⊢
    exact hq q hidle

theorem setReceiver_receiving (s : State) (p : Port) (r r' : Receiver) (cs : List Instr) :
    setReceiver p r' (receiving s p r cs) = receiving s p r' cs := by
  have hport : (receiving s p r cs).port p = { s.port p with receiver := r } := by
    simp [receiving, State.withPending, State.port, State.withPort]
  rw [setReceiver, hport]
  exact congrArg (State.withPending · cs) (State.withPort_withPort s p _ _)

theorem receiver_receiving (s : State) (p : Port) (r : Receiver) (cs : List Instr) :
    ((receiving s p r cs).port p).receiver = r := by
  simp [receiving, State.withPending, State.port, State.withPort]

section
variable {s : State} (hs : Settled s) (ht : s.instant.timing = []) (hr : s.lines.reset = false)
  (p : Port)
include hs ht hr

/-- An event that only moves the receiver is one step. -/
theorem step_receiving {c : Instr} {f : Order → State → State} {r r' : Receiver} (cs : List Instr)
    (hc : ∀ o, effect c o = released (f o))
    (hf : ∀ o, f o (receiving s p r cs) = receiving s p r' cs) :
    step (receiving s p r (c :: cs)) = .next (receiving s p r' cs) := by
  have hopened : opened (receiving s p r cs) = receiving s p r cs :=
    opened_of_no_timing (settled_receiving hs p r cs) ht
  have hstep : step (receiving s p r (c :: cs)) = exec c (receiving s p r cs) := rfl
  rw [hstep, exec_eq, hopened, hc, released_of_released (x := receiving s p r cs) hr, hf]
  exact congrArg _ (closed_of_settled hs.1 (settled_receiving hs p r' cs))

theorem step_receiveIdle (cs : List Instr) :
    step (receiving s p .hunt (.receiveIdle p :: cs)) = .next (receiving s p .ready cs) := by
  refine step_receiving hs ht hr p cs
    (f := fun _ x => if (x.port p).receiver = .hunt then setReceiver p .ready x else x)
    (fun _ => rfl) fun _ => ?_
  rw [if_pos (receiver_receiving s p .hunt cs), setReceiver_receiving]

theorem step_firstByte (b : Byte) (cs : List Instr) :
    step (receiving s p .ready (.byteArrival p b :: cs)) =
      .next (receiving s p (.receiving [b]) cs) := by
  refine step_receiving hs ht hr p cs (f := receiveByte p b) (fun _ => rfl) fun _ => ?_
  simp only [receiveByte, receiver_receiving, setReceiver_receiving]

theorem step_nextByte {held : List Byte} (hlen : held.length < 19) (b : Byte) (cs : List Instr) :
    step (receiving s p (.receiving held) (.byteArrival p b :: cs)) =
      .next (receiving s p (.receiving (held ++ [b])) cs) := by
  refine step_receiving hs ht hr p cs (f := receiveByte p b) (fun _ => rfl) fun _ => ?_
  have hlt : held.length + 1 < Config.frameBytes := Nat.succ_lt_succ hlen
  simp only [receiveByte, receiver_receiving, hlt, if_true, setReceiver_receiving]

omit hs ht hr in
theorem run_succ {k : Nat} {u v : State} (h : step u = .next v) :
    Sys2Proof.core.run (k + 1) u = Sys2Proof.core.run k v := by
  have hstep : Sys2Proof.core.step u = .next v := h
  simp only [Host.Core.run, hstep]

/-- Byte after byte is held, up to nineteen (R165). -/
theorem run_bytes (bs : List Byte) {held : List Byte} (hlen : held.length + bs.length ≤ 19) :
    Sys2Proof.core.run bs.length (receiving s p (.receiving held) (bs.map (Instr.byteArrival p))) =
      .next (receiving s p (.receiving (held ++ bs)) []) := by
  induction bs generalizing held with
  | nil =>
    rw [List.append_nil]
    rfl
  | cons b bs ih =>
    rw [List.length_cons] at hlen ⊢
    rw [List.map_cons, run_succ (step_nextByte hs ht hr p (by omega) b _),
      ih (by rw [List.length_append, List.length_singleton]; omega), List.append_assoc,
      List.singleton_append]

/-- RECEIVE_IDLE and nineteen bytes from HUNT. -/
theorem run_frame {held : List Byte} (hlen : held.length = 19) :
    Sys2Proof.core.run 20 (receiving s p .hunt (.receiveIdle p :: held.map (Instr.byteArrival p))) =
      .next (receiving s p (.receiving held) []) := by
  cases held with
  | nil => simp at hlen
  | cons b bs =>
    have hbs : bs.length = 18 := by simpa using hlen
    have hrun := run_bytes hs ht hr p bs (held := [b]) (by simp [hbs])
    rw [hbs] at hrun
    rw [List.map_cons, run_succ (step_receiveIdle hs ht hr p _),
      run_succ (step_firstByte hs ht hr p b _)]
    exact hrun

omit hs ht hr in
theorem withPending_eq_receiving (hhunt : (s.port p).receiver = .hunt) (cs : List Instr) :
    s.withPending cs = receiving s p .hunt cs := by
  have hself : s.withPort p { s.port p with receiver := .hunt } = s := by
    rw [← hhunt]
    exact State.withPort_port_self s p
  rw [receiving, hself]

/-- A frame command does on the block that holds its bytes what it does on the free receiver. -/
theorem exec_receiving {c : Instr} {f : List Byte} (hwf : c.wellFormed = true)
    (hp : portOf c = some p)
    (hf : commandFrame c = some f) (hhunt : (s.port p).receiver = .hunt) :
    exec c (receiving s p (.receiving (f.take 19)) []) = exec c (s.withPending []) := by
  have hopened : ∀ r, opened (receiving s p r []) = receiving s p r [] := fun r =>
    opened_of_no_timing (settled_receiving hs p r []) ht
  have htake : ∀ o, effect c o (receiving s p (.receiving (f.take 19)) []) =
      effect c o (receiving s p .hunt []) := by
    intro o
    rw [effect_of_frame hwf hp hf, frameArrives_of_completes (receiver_receiving s p _ []) hr
      (completes_commandFrame hwf hp hf), setReceiver_receiving, frameArrives_eq, if_pos]
    · exact congrArg _ (setReceiver_receiving s p .hunt .hunt []).symm
    · have hreset : (receiving s p .hunt []).lines.reset = false := hr
      simp [canArrive, hreset, receiver_receiving]
  rw [withPending_eq_receiving p hhunt, exec_eq, exec_eq, hopened, hopened, htake]
  rfl

end

/-- Settles O23. -/
theorem byteByByteReceptionIsTheFrameCommand :
    Obligations.ByteByByteReceptionIsTheFrameCommand := by
  refine ⟨fun c p f hwf hp hf => ⟨_, commandFrame_eq_append hf,
    fun u hu => exec_byteArrival_of_frame hwf hp hf hu, fun s hr hhunt hs ht => ?_⟩,
    fun p held b u hu hlen hbad => exec_byteArrival_of_bad hu hlen hbad⟩
  refine ⟨_, ?_, rfl, exec_receiving hs ht hr p hwf hp hf hhunt⟩
  rw [withPending_eq_receiving p hhunt]
  exact run_frame hs ht hr p (length_take_commandFrame hf)

end Sys2Proof.Machine
end
